-- ==== Sys2Proof/Word.lean ====
section
/-!
DEFINITION. The words and numberings of the JSC-1632 (00_scope 4.1): voices, oscillators, parts, notes, controls,
switches, slots, pages, outputs, fault flags, counters, part parameters and the bytes of frames and pages.
-/

namespace Sys2Proof

/-- A byte of a frame or of a page. -/
abbrev Byte := BitVec 8

/-- A voice 0-15. -/
abbrev VoiceId := Fin 16
/-- A part (timbre) 0-3. -/
abbrev PartId := Fin 4
/-- An oscillator 0-31: voice v has oscillators 2v (A) and 2v+1 (B). -/
abbrev OscId := Fin 32
/-- One of the four measurement channels of the Tuning Unit. -/
abbrev MeasId := Fin 4
/-- A note 0-127. -/
abbrev Note := Fin 128
/-- A velocity; the part keeps 1-127. -/
abbrev Velocity := Fin 128
/-- A channel 0-15 of the performance messages. -/
abbrev MidiChannel := Fin 16
/-- A panel control 0-95. -/
abbrev ControlId := Fin 96
/-- A panel switch 0-31. -/
abbrev SwitchId := Fin 32
/-- A patch slot 0-511. -/
abbrev SlotId := Fin 512
/-- A bank of 256 slots. -/
abbrev BankId := Fin 2
/-- A page of the store: 0-511 the slots, 512-527 the tuning pages, 528 the protection page. -/
abbrev PageNo := Fin 529
/-- An analog output 0-135. -/
abbrev OutputId := Fin 136
/-- A fault flag 0-10 (R189). -/
abbrev FlagId := Fin 11
/-- A counter 0-19 (R200). -/
abbrev CounterId := Fin 20
/-- A part parameter 0-23 (R121). -/
abbrev ParamId := Fin 24

/-- The 64 bytes of a page (R142). -/
abbrev Page := Vector Byte 64

/-- A frame without its SYNC, LEN and CHECK, which follow from it (R204). -/
structure Frame where
  kind : Byte
  tag : Byte
  payload : List Byte
  deriving DecidableEq, Repr

/-- Entry `i` of a table changed by `f`, every other entry kept. -/
def upd {α : Type} {n : Nat} (v : Vector α n) (i : Fin n) (f : α → α) : Vector α n :=
  v.set i.val (f v[i]) i.isLt

end Sys2Proof
end

