-- ==== Sys2Proof/Syntax.lean ====
section
/-!
DEFINITION. The commands of the JSC-1632: one constructor of `Instr` for each row of spec/opcode_table.json, in the
table's order. A message row stands for the host's whole frame, arrived with a good CHECK (log 1), with the payload
fields of R205 and R206 as sent; an event row carries what the event brings from outside.
-/

namespace Sys2Proof

/-- Where in a page write a loss of power or an assertion of RESETn falls (R166, log 10): before the page's
programming ends, or during its read-back. It matters only while the write engine writes a page. -/
inductive CutPoint where
  | programming
  | readBack
  deriving DecidableEq, Repr

/-- What happens at the link at one moment: a byte is received, or the last byte of the frame on the line is sent. These
are the moments at which the decoder can take a frame (R174). -/
inductive LinkMoment where
  | byteReceived (b : Byte)
  | frameSent
  deriving DecidableEq, Repr

/-- A moment of the link that falls into a JUDGE step, just before the evaluation of a control: the request that the decoder
may then take is taken between two motion events of one pass (R112, log 25). -/
structure Meeting where
  before : ControlId
  moment : LinkMoment
  deriving DecidableEq, Repr

/-- What the converter answers for a reference input (R104), and the moment of the link, if any, that falls into the JUDGE
step which follows the reading of REF_HIGH (R112, log 25). -/
structure ReferenceReading where
  raw : BitVec 12
  between : Option Meeting
  deriving DecidableEq, Repr

/-- The commands. -/
inductive Instr where
  | resetnAssert (cut : CutPoint)
  | resetnRelease
  | tuningPageReadDone
  | protectionPageReadDone
  | receivedByte (b : Byte)
  | framingError
  | lineBreak
  | byteGapExpiry
  | frameSent
  | unknownKindFrame (kind tag : Byte) (payload : List Byte)
  | keyDown (channel note velocity : Byte)
  | keyUp (channel note : Byte)
  | bend (channel : Byte) (value : BitVec 16)
  | pedal (channel value : Byte)
  | silence (mask form : Byte)
  | releaseHoldExpiry (v : VoiceId)
  | quenchExpiry (v : VoiceId)
  | gapExpiry (v : VoiceId)
  | refreshPassTimerExpiry
  | outputVisit
  | settleExpiry (c : MeasId)
  | oscRisingEdge (o : OscId) (cycles : Nat)
  | edgeTimerExpiry (c : MeasId)
  | countTimerExpiry (c : MeasId)
  | backgroundIntervalExpiry
  | scanTimerExpiry
  | switchSampling (samples : BitVec 32)
  | controlConversion (raw : BitVec 12)
  | referenceConversion (raw : ReferenceReading)
  | readbackConversionDone (raw : BitVec 12)
  | pageWriteDone (readBack : Option Page)
  | pageEraseDone
  | recallReadDone (p : PartId)
  | exportReadDone
  | slotInfoReadDone
  | identify (tag : Byte)
  | restart (tag : Byte)
  | setGlobal (tag item : Byte) (value : BitVec 16)
  | getGlobal (tag item : Byte)
  | setRoute (tag part channel low high : Byte)
  | setPool (tag : Byte) (entries : Vector Byte 16)
  | setVoiceEnable (tag voice enable : Byte)
  | getVoice (tag voice : Byte)
  | getPart (tag part : Byte)
  | getLists (tag part list : Byte)
  | setParam (tag part index : Byte) (value : BitVec 16)
  | getParam (tag part index : Byte)
  | bindControl (tag control target part index mode deadband report : Byte)
  | getControl (tag control : Byte)
  | recallSlot (tag part : Byte) (slot : BitVec 16)
  | store (tag part : Byte) (slot : BitVec 16) (category : Byte) (name : Vector Byte 12)
  | uploadChunk (tag index : Byte) (chunk : Vector Byte 16)
  | uploadCommit (tag : Byte) (slot : BitVec 16)
  | uploadClear (tag : Byte)
  | exportSlot (tag : Byte) (slot : BitVec 16) (chunk : Byte)
  | protect (tag bank level : Byte)
  | wipeBank (tag bank : Byte)
  | getSlotInfo (tag : Byte) (slot : BitVec 16)
  | saveTuning (tag : Byte)
  | tuneStart (tag : Byte) (mask : BitVec 16)
  | tuneAbort (tag : Byte)
  | getTuning (tag osc : Byte)
  | resetTuning (tag : Byte) (mask : BitVec 32)
  | getFaults (tag clear : Byte)
  | setMasks (tag : Byte) (flagMask : BitVec 16) (categoryMask noticeMask : Byte)
  | testMonitor (tag monitor : Byte)
  | getCounters (tag first count clear : Byte)
  | lossOfPower (cut : CutPoint)
  deriving DecidableEq, Repr

end Sys2Proof
end

