-- ==== Sys2Proof/Decode.lean ====
section
/-!
DEFINITION. What a word or a frame spells. No row of the opcode table has bits, so no word spells a command
(`decodeTableWord`). A frame's KIND and payload spell the message commands as the tables of R205 and R206 lay them
out: `frameMeaning` is the Link Controller's classification of a frame (R175), `frameOf` the frame the host sends.
-/

namespace Sys2Proof

/-- The command a word spells by the table's bits: the table gives no row any bits. -/
def decodeTableWord (_nbits _w : Nat) : Option Instr := none

/-- Two bytes as one field, most significant first (R204). -/
def joinBytes (hi lo : Byte) : BitVec 16 := hi ++ lo

/-- The most significant byte of a two-byte field. -/
def highByte (w : BitVec 16) : Byte := w.extractLsb' 8 8

/-- The least significant byte of a two-byte field. -/
def lowByte (w : BitVec 16) : Byte := w.extractLsb' 0 8

/-- A two-byte field as sent (R204). -/
def bytes16 (w : BitVec 16) : List Byte := [highByte w, lowByte w]

/-- A four-byte field as sent (R204). -/
def bytes32 (w : BitVec 32) : List Byte :=
  [w.extractLsb' 24 8, w.extractLsb' 16 8, w.extractLsb' 8 8, w.extractLsb' 0 8]

/-- The one payload length of each kind the host sends (R205, R206); `none` for an unknown kind. -/
def payloadLength? (kind : Byte) : Option Nat :=
  match kind.toNat with
  | 0x01 => some 3 | 0x02 => some 2 | 0x03 => some 3 | 0x04 => some 2 | 0x05 => some 2
  | 0x10 => some 0 | 0x11 => some 0 | 0x12 => some 3 | 0x13 => some 1 | 0x14 => some 4
  | 0x15 => some 16 | 0x16 => some 2 | 0x17 => some 1 | 0x18 => some 1 | 0x19 => some 2
  | 0x1A => some 4 | 0x1B => some 2 | 0x1C => some 7 | 0x1D => some 1
  | 0x20 => some 3 | 0x21 => some 16 | 0x22 => some 17 | 0x23 => some 2 | 0x24 => some 0
  | 0x25 => some 3 | 0x26 => some 2 | 0x27 => some 1 | 0x28 => some 2
  | 0x30 => some 2 | 0x31 => some 0 | 0x32 => some 0 | 0x33 => some 1 | 0x34 => some 4
  | 0x38 => some 1 | 0x39 => some 4 | 0x3A => some 1 | 0x3B => some 3
  | _ => none

/-- The five performance kinds (R205). -/
def isPerformanceKind (kind : Byte) : Bool := 1 ≤ kind.toNat && kind.toNat ≤ 5

/-- A payload with no field. -/
def noFields (i : Instr) : List Byte → Option Instr
  | [] => some i
  | _ => none

/-- A payload of one byte. -/
def oneField (f : Byte → Instr) : List Byte → Option Instr
  | [a] => some (f a)
  | _ => none

/-- A payload of two bytes. -/
def twoFields (f : Byte → Byte → Instr) : List Byte → Option Instr
  | [a, b] => some (f a b)
  | _ => none

/-- A payload of three bytes. -/
def threeFields (f : Byte → Byte → Byte → Instr) : List Byte → Option Instr
  | [a, b, c] => some (f a b c)
  | _ => none

/-- A payload of four bytes. -/
def fourFields (f : Byte → Byte → Byte → Byte → Instr) : List Byte → Option Instr
  | [a, b, c, d] => some (f a b c d)
  | _ => none

/-- BIND_CONTROL's seven fields (R206). -/
def bindFields (tag : Byte) : List Byte → Option Instr
  | [c, t, p, i, m, d, r] => some (.bindControl tag c t p i m d r)
  | _ => none

/-- SET_POOL's sixteen entries (R206). -/
def poolFields (tag : Byte) (p : List Byte) : Option Instr :=
  if h : p.length = 16 then some (.setPool tag ⟨p.toArray, by simpa using h⟩) else none

/-- STORE's part, slot, category and name (R206). -/
def storeFields (tag : Byte) : List Byte → Option Instr
  | part :: hi :: lo :: category :: name =>
    if h : name.length = 12 then
      some (.store tag part (joinBytes hi lo) category ⟨name.toArray, by simpa using h⟩)
    else none
  | _ => none

/-- UPLOAD_CHUNK's index and sixteen bytes (R206). -/
def chunkFields (tag : Byte) : List Byte → Option Instr
  | index :: chunk =>
    if h : chunk.length = 16 then some (.uploadChunk tag index ⟨chunk.toArray, by simpa using h⟩)
    else none
  | _ => none

/-- The message a known kind's payload spells (R205, R206). -/
def parseMessage (kind : Nat) (tag : Byte) (p : List Byte) : Option Instr :=
  match kind with
  | 0x01 => threeFields .keyDown p
  | 0x02 => twoFields .keyUp p
  | 0x03 => threeFields (fun c hi lo => .bend c (joinBytes hi lo)) p
  | 0x04 => twoFields .pedal p
  | 0x05 => twoFields .silence p
  | 0x10 => noFields (.identify tag) p
  | 0x11 => noFields (.restart tag) p
  | 0x12 => threeFields (fun i hi lo => .setGlobal tag i (joinBytes hi lo)) p
  | 0x13 => oneField (.getGlobal tag) p
  | 0x14 => fourFields (.setRoute tag) p
  | 0x15 => poolFields tag p
  | 0x16 => twoFields (.setVoiceEnable tag) p
  | 0x17 => oneField (.getVoice tag) p
  | 0x18 => oneField (.getPart tag) p
  | 0x19 => twoFields (.getLists tag) p
  | 0x1A => fourFields (fun a i hi lo => .setParam tag a i (joinBytes hi lo)) p
  | 0x1B => twoFields (.getParam tag) p
  | 0x1C => bindFields tag p
  | 0x1D => oneField (.getControl tag) p
  | 0x20 => threeFields (fun a hi lo => .recallSlot tag a (joinBytes hi lo)) p
  | 0x21 => storeFields tag p
  | 0x22 => chunkFields tag p
  | 0x23 => twoFields (fun hi lo => .uploadCommit tag (joinBytes hi lo)) p
  | 0x24 => noFields (.uploadClear tag) p
  | 0x25 => threeFields (fun hi lo c => .exportSlot tag (joinBytes hi lo) c) p
  | 0x26 => twoFields (.protect tag) p
  | 0x27 => oneField (.wipeBank tag) p
  | 0x28 => twoFields (fun hi lo => .getSlotInfo tag (joinBytes hi lo)) p
  | 0x30 => twoFields (fun hi lo => .tuneStart tag (joinBytes hi lo)) p
  | 0x31 => noFields (.tuneAbort tag) p
  | 0x32 => noFields (.saveTuning tag) p
  | 0x33 => oneField (.getTuning tag) p
  | 0x34 => fourFields (fun a b c d => .resetTuning tag (a ++ b ++ c ++ d)) p
  | 0x38 => oneField (.getFaults tag) p
  | 0x39 => fourFields (fun hi lo c n => .setMasks tag (joinBytes hi lo) c n) p
  | 0x3A => oneField (.testMonitor tag) p
  | 0x3B => threeFields (.getCounters tag) p
  | _ => none

/-- What the decoder makes of a frame by its KIND and LEN alone (R175, checks 2 and 3). -/
inductive FrameMeaning where
  | unknownKind
  | wrongLength
  | message (i : Instr)
  deriving DecidableEq, Repr

/-- The classification of R175 by kind and length. -/
def frameMeaning (f : Frame) : FrameMeaning :=
  match payloadLength? f.kind with
  | none => .unknownKind
  | some n =>
    if f.payload.length = n then
      match parseMessage f.kind.toNat f.tag f.payload with
      | none => .wrongLength
      | some i => .message i
    else .wrongLength

/-- The frame that carries a message command; `none` for a command that is no frame. A performance message's TAG is
not used (R176); it is sent as 0 here. -/
def frameOf : Instr → Option Frame
  | .unknownKindFrame kind tag payload => some ⟨kind, tag, payload⟩
  | .keyDown c n v => some ⟨0x01, 0, [c, n, v]⟩
  | .keyUp c n => some ⟨0x02, 0, [c, n]⟩
  | .bend c value => some ⟨0x03, 0, c :: bytes16 value⟩
  | .pedal c value => some ⟨0x04, 0, [c, value]⟩
  | .silence mask form => some ⟨0x05, 0, [mask, form]⟩
  | .identify tag => some ⟨0x10, tag, []⟩
  | .restart tag => some ⟨0x11, tag, []⟩
  | .setGlobal tag item value => some ⟨0x12, tag, item :: bytes16 value⟩
  | .getGlobal tag item => some ⟨0x13, tag, [item]⟩
  | .setRoute tag part channel low high => some ⟨0x14, tag, [part, channel, low, high]⟩
  | .setPool tag entries => some ⟨0x15, tag, entries.toList⟩
  | .setVoiceEnable tag voice enable => some ⟨0x16, tag, [voice, enable]⟩
  | .getVoice tag voice => some ⟨0x17, tag, [voice]⟩
  | .getPart tag part => some ⟨0x18, tag, [part]⟩
  | .getLists tag part list => some ⟨0x19, tag, [part, list]⟩
  | .setParam tag part index value => some ⟨0x1A, tag, part :: index :: bytes16 value⟩
  | .getParam tag part index => some ⟨0x1B, tag, [part, index]⟩
  | .bindControl tag c t p i m d r => some ⟨0x1C, tag, [c, t, p, i, m, d, r]⟩
  | .getControl tag control => some ⟨0x1D, tag, [control]⟩
  | .recallSlot tag part slot => some ⟨0x20, tag, part :: bytes16 slot⟩
  | .store tag part slot category name =>
    some ⟨0x21, tag, part :: highByte slot :: lowByte slot :: category :: name.toList⟩
  | .uploadChunk tag index chunk => some ⟨0x22, tag, index :: chunk.toList⟩
  | .uploadCommit tag slot => some ⟨0x23, tag, bytes16 slot⟩
  | .uploadClear tag => some ⟨0x24, tag, []⟩
  | .exportSlot tag slot chunk => some ⟨0x25, tag, bytes16 slot ++ [chunk]⟩
  | .protect tag bank level => some ⟨0x26, tag, [bank, level]⟩
  | .wipeBank tag bank => some ⟨0x27, tag, [bank]⟩
  | .getSlotInfo tag slot => some ⟨0x28, tag, bytes16 slot⟩
  | .tuneStart tag mask => some ⟨0x30, tag, bytes16 mask⟩
  | .tuneAbort tag => some ⟨0x31, tag, []⟩
  | .saveTuning tag => some ⟨0x32, tag, []⟩
  | .getTuning tag osc => some ⟨0x33, tag, [osc]⟩
  | .resetTuning tag mask => some ⟨0x34, tag, bytes32 mask⟩
  | .getFaults tag clear => some ⟨0x38, tag, [clear]⟩
  | .setMasks tag fm cm nm => some ⟨0x39, tag, bytes16 fm ++ [cm, nm]⟩
  | .testMonitor tag monitor => some ⟨0x3A, tag, [monitor]⟩
  | .getCounters tag first count clear => some ⟨0x3B, tag, [first, count, clear]⟩
  | .resetnAssert _ | .resetnRelease | .tuningPageReadDone | .protectionPageReadDone | .receivedByte _
  | .framingError | .lineBreak | .byteGapExpiry | .frameSent | .releaseHoldExpiry _ | .quenchExpiry _
  | .gapExpiry _ | .refreshPassTimerExpiry | .outputVisit | .settleExpiry _ | .oscRisingEdge _ _
  | .edgeTimerExpiry _ | .countTimerExpiry _ | .backgroundIntervalExpiry | .scanTimerExpiry
  | .switchSampling _ | .controlConversion _ | .referenceConversion _ | .readbackConversionDone _
  | .pageWriteDone _ | .pageEraseDone | .recallReadDone _ | .exportReadDone | .slotInfoReadDone
  | .lossOfPower _ => none

end Sys2Proof
end

