-- ==== Sys2Proof/Machine/Tables.lean ====
section
/-!
DEFINITION. The fixed tables of the manual: part parameters with their ranges and defaults (R121), ranges of the global
settings (08_message_link 8.6), categories of the fault flags (R189), and the numbers of flags and counters.
-/

namespace Sys2Proof.Machine

/-- Range and default of a part parameter. -/
structure ParamSpec where
  min : Nat
  max : Nat
  default : Nat
  deriving DecidableEq, Repr

/-- The twenty-four parameters of R121, by index. -/
def paramTable : Vector ParamSpec 24 := #v[
  ⟨0, 2, 0⟩, ⟨2, 16, 4⟩, ⟨0, 1023, 0⟩, ⟨0, 2, 0⟩, ⟨0, 2, 0⟩, ⟨0, 1, 0⟩, ⟨0, 1, 1⟩, ⟨0, 2, 0⟩,
  ⟨0, 1023, 0⟩, ⟨0, 24, 2⟩, ⟨0, 48, 24⟩, ⟨1, 50, 8⟩, ⟨0, 48, 24⟩, ⟨0, 1023, 512⟩, ⟨0, 1023, 512⟩,
  ⟨0, 1023, 512⟩, ⟨0, 1023, 512⟩, ⟨0, 1023, 1023⟩, ⟨0, 1023, 0⟩, ⟨0, 64, 32⟩, ⟨0, 127, 0⟩,
  ⟨0, 1023, 800⟩, ⟨0, 1023, 100⟩, ⟨0, 1023, 0⟩]

/-- The default values of the twenty-four parameters (R121). -/
def paramDefaults : Vector Nat 24 := Vector.ofFn fun i => paramTable[i].default

abbrev pVoiceMode : ParamId := 0
abbrev pUnisonCount : ParamId := 1
abbrev pUnisonSpread : ParamId := 2
abbrev pStealRule : ParamId := 3
abbrev pNotePriority : ParamId := 4
abbrev pLegato : ParamId := 5
abbrev pSameNote : ParamId := 6
abbrev pGlideMode : ParamId := 7
abbrev pGlideAmount : ParamId := 8
abbrev pBendRange : ParamId := 9
abbrev pTranspose : ParamId := 10
abbrev pQuenchTime : ParamId := 11
abbrev pOscBInterval : ParamId := 12
abbrev pOscBDetune : ParamId := 13
abbrev pPwA : ParamId := 14
abbrev pPwB : ParamId := 15
abbrev pMix : ParamId := 16
abbrev pCutoff : ParamId := 17
abbrev pResonance : ParamId := 18
abbrev pKeyTrack : ParamId := 19
abbrev pVelToCutoff : ParamId := 20
abbrev pLevel : ParamId := 21
abbrev pAmpRelease : ParamId := 22
abbrev pFilterEnvAmt : ParamId := 23

/-- VOICE_MODE 0 (R121). -/
abbrev modePoly : Nat := 0
/-- VOICE_MODE 1 (R121). -/
abbrev modeMono : Nat := 1
/-- VOICE_MODE 2 (R121). -/
abbrev modeUnison : Nat := 2

/-- The fault flags of R189. -/
abbrev fRefLow : FlagId := 0
abbrev fRefHigh : FlagId := 1
abbrev fReadback : FlagId := 2
abbrev fTuneFail : FlagId := 3
abbrev fVoiceDisabled : FlagId := 4
abbrev fRecallCrc : FlagId := 5
abbrev fStartupCrc : FlagId := 6
abbrev fWriteVerify : FlagId := 7
abbrev fFrameCheck : FlagId := 8
abbrev fInboundOverrun : FlagId := 9
abbrev fNoticeLost : FlagId := 10

/-- The category of each fault flag: 0 SCAN, 1 TUNE, 2 STORE, 3 LINK (R189, R193). -/
def flagCategory : Vector (Fin 4) 11 := #v[0, 0, 0, 1, 1, 2, 2, 2, 3, 3, 3]

/-- The counters of R200. -/
def cKeysAccepted (p : PartId) : CounterId := ⟨p.val, by omega⟩
def cKeysDropped (p : PartId) : CounterId := ⟨4 + p.val, by omega⟩
def cSteals (p : PartId) : CounterId := ⟨8 + p.val, by omega⟩
abbrev cFramesDiscarded : CounterId := 12
abbrev cNoticesLost : CounterId := 13
abbrev cPitchClamps : CounterId := 14
abbrev cTuneFails : CounterId := 15
abbrev cTuneYields : CounterId := 16
abbrev cRecalls : CounterId := 17
abbrev cWrites : CounterId := 18
abbrev cReadbackGlitches : CounterId := 19

/-- The sixteen voices in ascending order. -/
def allVoices : List VoiceId := List.finRange 16
/-- The four parts in ascending order. -/
def allParts : List PartId := List.finRange 4
/-- The ninety-six controls in ascending order. -/
def allControls : List ControlId := List.finRange 96

end Sys2Proof.Machine
end

