-- ==== Sys2Proof/Machine/State.lean ====
section
/-!
DEFINITION. The state of the JSC-1632: one record for each of the eight blocks of 00_scope 2.1, the start-up phase, and
the queue of waiting commands. Plain data throughout. A timer is `none` when stopped and `some d` when running, with
the duration d in ms it was started with (R3).
-/

namespace Sys2Proof.Machine

/-- A timer: stopped, or running with the duration in ms fixed at its start (R3). -/
abbrev Timer := Option Nat

/-! ### Voice Assigner (R1, R2, R4, R19) -/

/-- The eight states of a voice (R2). -/
inductive VoiceState where
  | idle | gated | retrigger | released | quenching | waiting | tuning | disabled
  deriving DecidableEq, Repr

/-- The note a QUENCHING voice will take (R1). -/
structure PendingNote where
  note : Note
  velocity : Velocity
  sustained : Bool
  deriving DecidableEq, Repr

/-- A voice record (R1). Note and Velocity are present together. -/
structure Voice where
  state : VoiceState
  part : Option PartId
  sound : Option (Note × Velocity)
  keyHeld : Bool
  sustained : Bool
  pendingNote : Option PendingNote
  unisonIndex : Nat
  releaseHold : Timer
  quench : Timer
  gap : Timer
  lastPlayed : Option Note
  deriving DecidableEq, Repr

/-- A unison stack not yet gated (R4, R39). -/
structure StartRecord where
  members : List VoiceId
  waiting : Nat
  note : Note
  velocity : Velocity
  deriving DecidableEq, Repr

/-- A part record (R4). The pool is the voices' Part fields. -/
structure Part where
  channel : Option MidiChannel
  lowKey : Note
  highKey : Note
  free : List VoiceId
  active : List VoiceId
  held : List Note
  pedal : Bool
  bend : Int
  start : Option StartRecord
  deriving DecidableEq, Repr

/-- The Voice Assigner. -/
structure Vas where
  voices : Vector Voice 16
  parts : Vector Part 4
  gateGap : Nat
  tailQuench : Nat
  deriving DecidableEq, Repr

/-! ### CV Output Unit (R54) -/

/-- The CV Output Unit. `bus` is the output-select bus and the DAC data lines, `none` while they are idle (R54); what they
carry between visits is the model's choice (log 34). -/
structure Cvo where
  passTimer : Timer
  position : Option OutputId
  latched : Vector Nat 136
  glide : Vector (Option Int) 16
  glideRate : Vector (Option Nat) 16
  spread : Vector Int 16
  clampFlag : Vector Bool 32
  masterTune : Int
  gates : Vector Bool 16
  bus : Option (OutputId × Nat)
  deriving DecidableEq, Repr

/-! ### Tuning Unit (R72, R73, R83, R91 to R98) -/

/-- The states of a measurement channel (R73). -/
inductive MeasState where
  | idle | settle | arm | count
  deriving DecidableEq, Repr

/-- A measurement channel (R73); candidate b (1-9) stands at index b - 1. -/
structure Channel where
  state : MeasState
  osc : Option OscId
  breakpoint : Nat
  code : Nat
  measurements : Nat
  settleTimer : Timer
  edgeTimer : Timer
  countTimer : Timer
  edges : Nat
  reference : Nat
  candidates : Vector (Option Int) 9
  deriving DecidableEq, Repr

/-- The verdicts of an oscillator, and NOT_DONE (R80). -/
inductive OscResult where
  | ok | noSignal | outOfRange | noConverge | notDone
  deriving DecidableEq, Repr

/-- The status of a voice of the tune job (R83). -/
inductive EntryStatus where
  | queued | measuring | done
  deriving DecidableEq, Repr

/-- An entry of the tune job (R83). -/
structure JobEntry where
  voice : VoiceId
  status : EntryStatus
  pair : Option (Fin 2)
  wasDisabled : Bool
  resultA : Option OscResult
  resultB : Option OscResult
  deriving DecidableEq, Repr

/-- The tune job (R83). -/
structure TuneJob where
  tag : Byte
  entries : List JobEntry
  deriving DecidableEq, Repr

/-- The Tuning Unit. A background pass runs exactly while `passList` is not empty (R93). -/
structure Tun where
  tables : Vector (Vector Int 12) 32
  channels : Vector Channel 4
  job : Option TuneJob
  ageList : List VoiceId
  interval : Nat
  intervalTimer : Timer
  passList : List VoiceId
  background : Option VoiceId
  backgroundA : Option OscResult
  backgroundB : Option OscResult
  settleTime : Nat
  deriving DecidableEq, Repr

/-! ### Panel Scanner (R102, R106, R108, R113, R115) -/

/-- The step of the scan pass in progress (R102). -/
inductive PassPosition where
  | idle | switches | control (c : ControlId) | refLow | refHigh | judge | readback
  deriving DecidableEq, Repr

/-- A control's filter record (R108). -/
structure Filter where
  provisional : Option Nat
  seeded : Bool
  acc : Nat
  filtered : Option Nat
  motion : Option Nat
  deriving DecidableEq, Repr

/-- A switch debouncer (R113); `true` is pressed. -/
structure Debouncer where
  debounced : Option Bool
  count : Nat
  deriving DecidableEq, Repr

/-- The reference monitor's record of one reference (R106): the consecutive-failure count, the reading of the last
pass, and the model's mark that the reading is a self-test's (R118, log 15). -/
structure Reference where
  count : Nat
  reading : Nat
  tested : Bool
  deriving DecidableEq, Repr

/-- The Panel Scanner. `visited` and `readbackTested` belong to a READBACK step in progress (log 15). -/
structure Pns where
  scanTimer : Timer
  position : PassPosition
  scanPeriod : Nat
  refLow : Reference
  refHigh : Reference
  filters : Vector Filter 96
  switches : Vector Debouncer 32
  pointer : OutputId
  retry : Bool
  visited : Bool
  readbackTested : Bool
  deriving DecidableEq, Repr

/-! ### Parameter and Binding Unit (R121, R122, R128, R131) -/

/-- A binding's target (R128). -/
inductive Target where
  | unbound | part (p : PartId) | focus
  deriving DecidableEq, Repr

/-- A binding's mode (R128). -/
inductive BindMode where
  | jump | pickup
  deriving DecidableEq, Repr

/-- A control's pickup state (R128). -/
inductive Pickup where
  | locked | waitAbove | waitBelow
  deriving DecidableEq, Repr

/-- A control's binding (R128). -/
structure Binding where
  target : Target
  index : ParamId
  mode : BindMode
  deadband : Nat
  report : Bool
  deriving DecidableEq, Repr

/-- A part's edit record (R122). -/
structure EditRecord where
  edited : Bool
  count : BitVec 16
  slot : Option SlotId
  deriving DecidableEq, Repr

/-- The Parameter and Binding Unit. -/
structure Pbu where
  live : Vector (Vector Nat 24) 4
  edits : Vector EditRecord 4
  bindings : Vector Binding 96
  pickups : Vector Pickup 96
  focus : PartId
  deriving DecidableEq, Repr

/-! ### Patch Memory Controller (R142, R145, R147, R150, R157) -/

/-- The page store: bytes at address 64 x page + offset, in canonical form (`Memory.wf`). -/
abbrev Memory := List Host.Cell

/-- A bank record (R145); level 0 OPEN, 1 NO_WRITE, 2 NO_WRITE_NO_EXPORT. -/
structure Bank where
  level : Fin 3
  blocked : Bool
  deriving DecidableEq, Repr

/-- The operations of the write engine (R147). -/
inductive WriteOp where
  | store | commit | protect | saveTuning | wipe
  deriving DecidableEq, Repr

/-- What an operation writes (R147). -/
inductive WriteTarget where
  | nothing | slot (s : SlotId) | bank (b : BankId)
  deriving DecidableEq, Repr

/-- The write engine (R147). -/
structure Engine where
  operation : Option WriteOp
  target : WriteTarget
  tag : Byte
  image : List Page
  snapshot : Option (PartId × BitVec 16)
  progress : Nat
  verifyFail : Bool
  resetWaiting : Bool
  deriving DecidableEq, Repr

/-- A recall's phase (R150). -/
inductive RecallPhase where
  | waiting | reading
  deriving DecidableEq, Repr

/-- A part's recall record (R150). -/
structure Recall where
  slot : SlotId
  tag : Byte
  phase : RecallPhase
  deriving DecidableEq, Repr

/-- The staging buffer (R157). -/
structure Staging where
  chunks : Vector (Vector Byte 16) 4
  loaded : Vector Bool 4
  committing : Bool
  deriving DecidableEq, Repr

/-- The page read whose end places a reply (R160, R161). -/
inductive PageRead where
  | exporting (slot : SlotId) (chunk : Fin 4)
  | slotInfo (slot : SlotId)
  deriving DecidableEq, Repr

/-- The Patch Memory Controller. -/
structure Pmc where
  memory : Memory
  banks : Vector Bank 2
  engine : Engine
  recalls : Vector (Option Recall) 4
  staging : Staging
  pageRead : Option PageRead
  deriving DecidableEq, Repr

/-! ### Link Controller (R169, R173, R178, R180 to R183) -/

/-- How a recall ends (R151, R153). -/
inductive RecallOutcome where
  | ok | empty | corrupt | superseded
  deriving DecidableEq, Repr

/-- An entry of the control report set (R139). -/
structure Report where
  control : ControlId
  value : Nat
  pickup : Pickup
  applied : Bool
  deriving DecidableEq, Repr

/-- A notice (R184). -/
inductive Notice where
  | ready
  | controlMoved (r : Report)
  | switchChanged (sw : SwitchId) (pressed : Bool)
  | partSilent (p : PartId)
  | recallDone (p : PartId) (slot : SlotId) (outcome : RecallOutcome) (tag : Byte)
  | writeDone (op : WriteOp) (target : WriteTarget) (verifyFail : Bool) (tag : Byte)
  | tuneVoiceDone (v : VoiceId) (a b : OscResult)
  | tuneDone (aborted : Bool) (tag : Byte)
  | counterHigh (c : CounterId)
  | fault (f : FlagId) (forced : Bool)
  deriving DecidableEq, Repr

/-- The frame receiver with the frame under assembly (R169): the fields received so far. -/
inductive RxState where
  | hunt
  | len
  | kind (len : Byte)
  | tag (len kind : Byte)
  | payload (len kind tag : Byte) (got : List Byte)
  | check (len kind tag : Byte) (got : List Byte)
  deriving DecidableEq, Repr

/-- The reply slot (R178); PENDING keeps the kind and tag of the request taken. -/
inductive ReplySlot where
  | empty
  | pending (kind tag : Byte)
  | full (f : Frame)
  | sending
  deriving DecidableEq, Repr

/-- A frame on the TX line: the reply, or a notice or control report with its number (R183, R184). -/
inductive Sending where
  | reply (f : Frame)
  | notice (seq : Byte) (n : Notice)
  deriving DecidableEq, Repr

/-- The Link Controller. -/
structure Lnk where
  rx : RxState
  gapTimer : Timer
  inbound : List Frame
  slot : ReplySlot
  notices : List (Byte × Notice)
  seq : Byte
  reports : List Report
  tx : Option Sending
  deriving DecidableEq, Repr

/-! ### Status Unit (R189, R193, R197, R200) -/

/-- A fault flag (R189). -/
structure Flag where
  isSet : Bool
  testMark : Bool
  deriving DecidableEq, Repr

/-- The Status Unit; `tests` are the pending marks of REF_LOW, REF_HIGH and READBACK. -/
structure Stu where
  flags : Vector Flag 11
  flagMask : BitVec 11
  categoryMask : BitVec 4
  noticeMask : BitVec 5
  tests : Vector Bool 3
  counters : Vector (BitVec 16) 20
  alert : Bool
  deriving DecidableEq, Repr

/-! ### The machine -/

/-- The start-up phase (R210). -/
inductive Phase where
  | held | loading | running
  deriving DecidableEq, Repr

/-- Why the part stops: it does not. No rule gives a command no effect, so there is no fault to name. -/
inductive Fault where
  deriving DecidableEq, Repr

/-- Why a command has no meaning in the model. -/
inductive Refusal where
  /-- A row of the opcode table not modelled yet, by its mnemonic: raised by no arm of `exec`; it would be safe. -/
  | notModelled (mnemonic : String)
  deriving DecidableEq, Repr

/-- The state of the part and the queue of waiting commands. -/
structure State where
  phase : Phase
  loadPage : Fin 17
  lnk : Lnk
  vas : Vas
  cvo : Cvo
  tun : Tun
  pns : Pns
  pbu : Pbu
  pmc : Pmc
  stu : Stu
  freeDraws : Nat
  pending : List Instr
  deriving DecidableEq, Repr

/-! ### After reset -/

/-- A voice after reset (R1). -/
def Voice.reset : Voice :=
  { state := .idle, part := some 0, sound := none, keyHeld := false, sustained := false, pendingNote := none,
    unisonIndex := 0, releaseHold := none, quench := none, gap := none, lastPlayed := none }

/-- A part after reset (R4): part 0 on channel 0 with every voice free, the others OFF and empty. -/
def Part.reset (p : PartId) : Part :=
  { channel := if p = 0 then some 0 else none, lowKey := 0, highKey := 127,
    free := if p = 0 then allVoices else [], active := [], held := [], pedal := false, bend := 0, start := none }

/-- The Voice Assigner after reset (R18, R19). -/
def Vas.reset : Vas :=
  { voices := Vector.replicate 16 Voice.reset, parts := Vector.ofFn Part.reset, gateGap := 2, tailQuench := 0 }

/-- The CV Output Unit after reset (R54). -/
def Cvo.reset : Cvo :=
  { passTimer := none, position := none, latched := Vector.replicate 136 0, glide := Vector.replicate 16 none,
    glideRate := Vector.replicate 16 none, spread := Vector.replicate 16 0, clampFlag := Vector.replicate 32 false,
    masterTune := 0, gates := Vector.replicate 16 false, bus := none }

/-- A measurement channel after reset (R73). -/
def Channel.reset : Channel :=
  { state := .idle, osc := none, breakpoint := 1, code := 0, measurements := 0, settleTimer := none, edgeTimer := none,
    countTimer := none, edges := 0, reference := 0, candidates := Vector.replicate 9 none }

/-- The Tuning Unit after reset (R101): the tables are 0 until the load (R72). -/
def Tun.reset : Tun :=
  { tables := Vector.replicate 32 (Vector.replicate 12 0), channels := Vector.replicate 4 Channel.reset, job := none,
    ageList := allVoices, interval := 0, intervalTimer := none, passList := [], background := none,
    backgroundA := none, backgroundB := none, settleTime := 10 }

/-- The Panel Scanner after reset (R120). The reading of a reference is a DESIGN CHOICE (log 16). -/
def Pns.reset : Pns :=
  { scanTimer := none, position := .idle, scanPeriod := 4, refLow := ⟨0, 0, false⟩, refHigh := ⟨0, 0, false⟩,
    filters := Vector.replicate 96 ⟨none, false, 0, none, none⟩, switches := Vector.replicate 32 ⟨none, 0⟩,
    pointer := 0, retry := false, visited := false, readbackTested := false }

/-- The Parameter and Binding Unit after reset (R141). -/
def Pbu.reset : Pbu :=
  { live := Vector.replicate 4 paramDefaults, edits := Vector.replicate 4 ⟨false, 0, none⟩,
    bindings := Vector.replicate 96 ⟨.unbound, 0, .pickup, 3, true⟩, pickups := Vector.replicate 96 .locked,
    focus := 0 }

/-- The write engine with no operation (R147). -/
def Engine.reset : Engine :=
  { operation := none, target := .nothing, tag := 0, image := [], snapshot := none, progress := 0,
    verifyFail := false, resetWaiting := false }

/-- The staging buffer, empty (R157). -/
def Staging.reset : Staging :=
  { chunks := Vector.replicate 4 (Vector.replicate 16 0), loaded := Vector.replicate 4 false, committing := false }

/-- The Patch Memory Controller after reset over a page store, which no reset changes (R167). The levels before the
load are a DESIGN CHOICE (log 16). -/
def Pmc.reset (m : Memory) : Pmc :=
  { memory := m, banks := Vector.replicate 2 ⟨0, false⟩, engine := Engine.reset,
    recalls := Vector.replicate 4 none, staging := Staging.reset, pageRead := none }

/-- The Link Controller after reset (R188). -/
def Lnk.reset : Lnk :=
  { rx := .hunt, gapTimer := none, inbound := [], slot := .empty, notices := [], seq := 0, reports := [], tx := none }

/-- The Status Unit after reset (R203). -/
def Stu.reset : Stu :=
  { flags := Vector.replicate 11 ⟨false, false⟩, flagMask := 0, categoryMask := 0, noticeMask := 0,
    tests := Vector.replicate 3 false, counters := Vector.replicate 20 0, alert := false }

/-- The part right after power-on reset: RESETn asserted, every block at its After reset values, the page store as
shipped (nothing listed), no command waiting (R210; logs 8, 12). -/
def State.reset : State :=
  { phase := .held, loadPage := 0, lnk := Lnk.reset, vas := Vas.reset, cvo := Cvo.reset, tun := Tun.reset,
    pns := Pns.reset, pbu := Pbu.reset, pmc := Pmc.reset [], stu := Stu.reset, freeDraws := 0, pending := [] }

end Sys2Proof.Machine
end

