-- ==== Sys2Proof/Machine/Operands.lean ====
section
/-!
DEFINITION. The arithmetic words of 00_scope 4.3, the coding of payload and page fields (R204), the codes of R207, and
the bytes of the notices (R207).
-/

namespace Sys2Proof.Machine

/-! ### Arithmetic words (00_scope 4.3) -/

/-- trunc of a / b: the fractional part removed toward zero. -/
def truncDiv (a b : Int) : Int := a.tdiv b

/-- round of a / b for b > 0: to the nearest integer, halves away from zero. -/
def roundDiv (a : Int) (b : Nat) : Int :=
  if 0 ≤ a then ((2 * a.natAbs + b) / (2 * b) : Nat) else -(((2 * a.natAbs + b) / (2 * b) : Nat) : Int)

/-- ceil of a / b for b > 0. -/
def ceilDiv (a b : Nat) : Nat := (a + b - 1) / b

/-- clamp to lo..hi of a signed number. -/
def clampInt (lo hi x : Int) : Int := if x < lo then lo else if hi < x then hi else x

/-- clamp to lo..hi of an unsigned number. -/
def clampNat (lo hi x : Nat) : Nat := if x < lo then lo else if hi < x then hi else x

/-- clamp to 0..65535, the range of a DAC code. -/
def clampCode (x : Int) : Nat := (clampInt 0 65535 x).toNat

/-! ### Coding of fields (R204) -/

/-- A 0-65535 number as a two-byte field. -/
def word (n : Nat) : List Byte := bytes16 (BitVec.ofNat 16 n)

/-- A signed number as a two-byte two's complement field. -/
def signedWord (n : Int) : List Byte := bytes16 (BitVec.ofInt 16 n)

/-- A number as a one-byte field. -/
def byte (n : Nat) : Byte := BitVec.ofNat 8 n

/-- A truth value as a one-byte field. -/
def flagByte (b : Bool) : Byte := if b then 1 else 0

/-- Bits from the least significant up, as a number. -/
def maskOf (bits : List Bool) : Nat := bits.foldr (fun b n => b.toNat + 2 * n) 0

/-! ### Field checks: a byte or word as an identifier, `none` when out of range -/

/-- A number as an identifier below `n`. -/
def ident? (n x : Nat) : Option (Fin n) := if h : x < n then some ⟨x, h⟩ else none

/-- A part 0-3. -/
def part? (b : Byte) : Option PartId := ident? 4 b.toNat
/-- A voice 0-15. -/
def voice? (b : Byte) : Option VoiceId := ident? 16 b.toNat
/-- A slot 0-511. -/
def slot? (w : BitVec 16) : Option SlotId := ident? 512 w.toNat
/-- A parameter index 0-23. -/
def param? (b : Byte) : Option ParamId := ident? 24 b.toNat
/-- A control 0-95. -/
def control? (b : Byte) : Option ControlId := ident? 96 b.toNat

/-- A note field clamped to 127 (R9). -/
def clampNote (b : Byte) : Note := ⟨min b.toNat 127, by omega⟩

/-- A velocity field clamped to 127 (R20). -/
def clampVelocity (b : Byte) : Velocity := ⟨min b.toNat 127, by omega⟩

/-- A 0-1 field, `none` above 1. -/
def bit? (b : Byte) : Option Bool :=
  if b.toNat = 0 then some false else if b.toNat = 1 then some true else none

/-- An optional part as sent: FFh for NONE. -/
def partByte : Option PartId → Byte
  | none => 0xFF
  | some p => byte p

/-! ### Codes (R207) -/

/-- Voice states. -/
def VoiceState.code : VoiceState → Byte
  | .idle => 0 | .gated => 1 | .retrigger => 2 | .released => 3
  | .quenching => 4 | .waiting => 5 | .tuning => 6 | .disabled => 7

/-- Oscillator results. -/
def OscResult.code : OscResult → Byte
  | .ok => 0 | .noSignal => 1 | .outOfRange => 2 | .noConverge => 3 | .notDone => 4

/-- Pickup states. -/
def Pickup.code : Pickup → Byte
  | .locked => 0 | .waitAbove => 1 | .waitBelow => 2

/-- Binding targets, with the part stored for PART and 0 otherwise (R129). -/
def Target.codes : Target → Byte × Byte
  | .unbound => (0, 0) | .part p => (1, byte p) | .focus => (2, 0)

/-- Binding modes. -/
def BindMode.code : BindMode → Byte
  | .jump => 0 | .pickup => 1

/-- Recall outcomes. -/
def RecallOutcome.code : RecallOutcome → Byte
  | .ok => 0 | .empty => 1 | .corrupt => 2 | .superseded => 3

/-- Write operations. -/
def WriteOp.code : WriteOp → Byte
  | .store => 1 | .commit => 2 | .protect => 3 | .saveTuning => 4 | .wipe => 5

/-- The target field of WRITE_DONE: the slot, the bank, or 0 for SAVE_TUNING. -/
def WriteTarget.number : WriteTarget → Nat
  | .nothing => 0 | .slot s => s | .bank b => b

/-- The status codes. -/
inductive Status where
  | ok | badKind | badLength | badValue | busy | denied | notReady | incomplete | badImage | alreadyLoaded | empty
  deriving DecidableEq, Repr

/-- The code of a status. -/
def Status.code : Status → Byte
  | .ok => 0 | .badKind => 1 | .badLength => 2 | .badValue => 3 | .busy => 4 | .denied => 5
  | .notReady => 6 | .incomplete => 7 | .badImage => 8 | .alreadyLoaded => 9 | .empty => 10

/-! ### Notices as frames (R184, R207) -/

/-- The KIND of a notice. -/
def Notice.kind : Notice → Byte
  | .ready => 0x40 | .controlMoved _ => 0x41 | .switchChanged _ _ => 0x42 | .partSilent _ => 0x43
  | .recallDone _ _ _ _ => 0x44 | .writeDone _ _ _ _ => 0x45 | .tuneVoiceDone _ _ _ => 0x46
  | .tuneDone _ _ => 0x47 | .counterHigh _ => 0x48 | .fault _ _ => 0x49

/-- The payload of a notice. -/
def Notice.payload : Notice → List Byte
  | .ready => []
  | .controlMoved r => byte r.control :: (word r.value ++ [r.pickup.code, flagByte r.applied])
  | .switchChanged sw pressed => [byte sw, flagByte pressed]
  | .partSilent p => [byte p]
  | .recallDone p slot outcome tag => byte p :: (word slot ++ [outcome.code, tag])
  | .writeDone op target bad tag => op.code :: (word target.number ++ [flagByte bad, tag])
  | .tuneVoiceDone v a b => [byte v, a.code, b.code]
  | .tuneDone aborted tag => [flagByte aborted, tag]
  | .counterHigh c => [byte c]
  | .fault f forced => [byte f, flagByte forced]

/-- The bit of the notice mask that stands for a notice's kind, if the kind is maskable (R193). -/
def Notice.maskBit : Notice → Option (Fin 5)
  | .controlMoved _ => some 0 | .switchChanged _ _ => some 1 | .partSilent _ => some 2
  | .tuneVoiceDone _ _ _ => some 3 | .counterHigh _ => some 4
  | .ready | .recallDone _ _ _ _ | .writeDone _ _ _ _ | .tuneDone _ _ | .fault _ _ => none

/-- The frame on the TX line (R184). -/
def Sending.frame : Sending → Frame
  | .reply f => f
  | .notice seq n => ⟨n.kind, seq, n.payload⟩

end Sys2Proof.Machine
end

