-- ==== Sys2Proof/Machine/Checks.lean ====
section
/-!
DEFINITION. The two check units (R172, R144, R209) and the bytes of a frame (R204).
-/

namespace Sys2Proof.Machine

/-- `n` shifts of the CRC-8 register, generator x^8 + x^2 + x + 1. -/
def crc8Shift : Nat → BitVec 8 → BitVec 8
  | 0, c => c
  | n + 1, c => crc8Shift n (if c.msb then (c <<< (1 : Nat)) ^^^ 0x07#8 else c <<< (1 : Nat))

/-- The CRC-8 of a byte sequence: from 00h, most significant bit first, no reflection, no inversion. -/
def crc8 (bytes : List Byte) : Byte := bytes.foldl (fun c b => crc8Shift 8 (c ^^^ b)) 0

/-- `n` shifts of the CRC-16 register, generator x^16 + x^12 + x^5 + 1. -/
def crc16Shift : Nat → BitVec 16 → BitVec 16
  | 0, c => c
  | n + 1, c => crc16Shift n (if c.msb then (c <<< (1 : Nat)) ^^^ 0x1021#16 else c <<< (1 : Nat))

/-- The CRC-16 of a byte sequence: from FFFFh, most significant bit first, no reflection, no inversion. -/
def crc16 (bytes : List Byte) : BitVec 16 :=
  bytes.foldl (fun c b => crc16Shift 8 (c ^^^ ((BitVec.setWidth 16 b) <<< (8 : Nat)))) 0xFFFF#16

/-- The bytes the CRC-8 of a frame runs over: LEN, KIND, TAG and the payload (R172). -/
def frameChecked (f : Frame) : List Byte := byte f.payload.length :: f.kind :: f.tag :: f.payload

/-- The bytes of a frame on the line (R204). -/
def frameBytes (f : Frame) : List Byte := 0xD3#8 :: (frameChecked f ++ [crc8 (frameChecked f)])

/-- The bytes of the frame the transmitter sends (R184). -/
def Sending.bytes (t : Sending) : List Byte := frameBytes t.frame

/-- The vector of the RECALL_CRC self-test and a check that is not its CRC-16 (R198; contents: log 19). -/
def selfTestVector16 : List Byte := List.replicate 62 0x55#8
def selfTestCheck16 : BitVec 16 := crc16 selfTestVector16 ^^^ 1#16

/-- The vector of the FRAME_CHECK self-test and a check that is not its CRC-8 (R198; contents: log 19). -/
def selfTestVector8 : List Byte := List.replicate 8 0x55#8
def selfTestCheck8 : Byte := crc8 selfTestVector8 ^^^ 1#8

end Sys2Proof.Machine
end

