-- ==== Sys2Proof/Machine/Ops.lean ====
section
/-!
DEFINITION. The named operations over the state: one change of each block's record, the reads and writes of voices,
parts, parameters, outputs, channels, controls, banks, flags and counters, and the lists of VAS (R5, R6).
-/

namespace Sys2Proof.Machine

/-! ### One change of a block -/

namespace State

def modLnk (s : State) (f : Lnk → Lnk) : State := { s with lnk := f s.lnk }
def modVas (s : State) (f : Vas → Vas) : State := { s with vas := f s.vas }
def modCvo (s : State) (f : Cvo → Cvo) : State := { s with cvo := f s.cvo }
def modTun (s : State) (f : Tun → Tun) : State := { s with tun := f s.tun }
def modPns (s : State) (f : Pns → Pns) : State := { s with pns := f s.pns }
def modPbu (s : State) (f : Pbu → Pbu) : State := { s with pbu := f s.pbu }
def modPmc (s : State) (f : Pmc → Pmc) : State := { s with pmc := f s.pmc }
def modStu (s : State) (f : Stu → Stu) : State := { s with stu := f s.stu }

/-! ### Voices and parts -/

/-- The record of a voice. -/
def voice (s : State) (v : VoiceId) : Voice := s.vas.voices[v]

/-- The record of a part. -/
def part (s : State) (p : PartId) : Part := s.vas.parts[p]

/-- A voice record changed. -/
def modVoice (s : State) (v : VoiceId) (f : Voice → Voice) : State :=
  s.modVas fun a => { a with voices := upd a.voices v f }

/-- A part record changed. -/
def modPart (s : State) (p : PartId) (f : Part → Part) : State :=
  s.modVas fun a => { a with parts := upd a.parts p f }

/-- The pool of a part: the voices whose Part it is (R4). -/
def pool (s : State) (p : PartId) : List VoiceId := allVoices.filter fun v => (s.voice v).part = some p

/-- The live value of a part parameter (R121). -/
def param (s : State) (p : PartId) (i : ParamId) : Nat := s.pbu.live[p][i]

/-- Gate line v (R69). -/
def setGate (s : State) (v : VoiceId) (high : Bool) : State :=
  s.modCvo fun c => { c with gates := upd c.gates v fun _ => high }

/-- A voice enters a state: its gate line is high in GATED and low in every other state, at once (R69). -/
def enter (s : State) (v : VoiceId) (st : VoiceState) : State :=
  (s.modVoice v fun x => { x with state := st }).setGate v (st = .gated)

/-! ### The free and active lists (R5, R6) -/

/-- The voice leaves the part's free list; the voices behind it close up. -/
def leaveFree (s : State) (p : PartId) (v : VoiceId) : State :=
  s.modPart p fun r => { r with free := r.free.filter (· ≠ v) }

/-- The voice joins the part's free list tail. -/
def joinFree (s : State) (p : PartId) (v : VoiceId) : State :=
  s.modPart p fun r => { r with free := r.free ++ [v] }

/-- The voice leaves the part's active list. -/
def leaveActive (s : State) (p : PartId) (v : VoiceId) : State :=
  s.modPart p fun r => { r with active := r.active.filter (· ≠ v) }

/-- The voice joins the part's active list tail. -/
def joinActive (s : State) (p : PartId) (v : VoiceId) : State :=
  s.modPart p fun r => { r with active := r.active ++ [v] }

/-- A voice already on the active list moves to its tail. -/
def toActiveTail (s : State) (p : PartId) (v : VoiceId) : State := (s.leaveActive p v).joinActive p v

/-- The voice joins the free list of its part, or no list when its Part is NONE. -/
def joinOwnFree (s : State) (v : VoiceId) : State :=
  match (s.voice v).part with
  | none => s
  | some p => s.joinFree p v

/-- The voice leaves whatever list of its part holds it. -/
def leaveLists (s : State) (v : VoiceId) : State :=
  match (s.voice v).part with
  | none => s
  | some p => (s.leaveFree p v).leaveActive p v

/-! ### Other tables -/

/-- A measurement channel changed. -/
def modChannel (s : State) (c : MeasId) (f : Channel → Channel) : State :=
  s.modTun fun t => { t with channels := upd t.channels c f }

/-- An oscillator's tuning table replaced whole, at once (R65, R82). -/
def setTable (s : State) (o : OscId) (table : Vector Int 12) : State :=
  s.modTun fun t => { t with tables := upd t.tables o fun _ => table }

/-- A control's filter record changed. -/
def modFilter (s : State) (c : ControlId) (f : Filter → Filter) : State :=
  s.modPns fun x => { x with filters := upd x.filters c f }

/-- A bank record changed. -/
def modBank (s : State) (b : BankId) (f : Bank → Bank) : State :=
  s.modPmc fun x => { x with banks := upd x.banks b f }

/-- A recall record replaced. -/
def setRecall (s : State) (p : PartId) (r : Option Recall) : State :=
  s.modPmc fun x => { x with recalls := upd x.recalls p fun _ => r }

end State

/-- The oscillators of a voice: A is 2v, B is 2v+1. -/
def oscA (v : VoiceId) : OscId := ⟨2 * v.val, by omega⟩
def oscB (v : VoiceId) : OscId := ⟨2 * v.val + 1, by omega⟩

/-- The voice of an oscillator. -/
def voiceOfOsc (o : OscId) : VoiceId := ⟨o.val / 2, by omega⟩

end Sys2Proof.Machine
end

