-- ==== Sys2Proof/Machine/Flags.lean ====
section
/-!
DEFINITION. The Status Unit's shared operations: fault flags (R190), counters (R200, R201), the ALERT line (R194), and
the offer and loss of a notice (R180, R181), which the two need of each other.
-/

namespace Sys2Proof.Machine

/-- ALERT is asserted exactly when a flag is set whose flag mask and category mask are both clear (R194). -/
def alertLevel (u : Stu) : Bool :=
  (List.finRange 11).any fun f =>
    u.flags[f].isSet && !u.flagMask.getLsbD f.val && !u.categoryMask.getLsbD flagCategory[f].val

/-- The notice mask disables the notice's kind (R196). -/
def disabled (u : Stu) (n : Notice) : Bool :=
  match n.maskBit with
  | none => false
  | some b => u.noticeMask.getLsbD b.val

/-- The count at which COUNTER_HIGH is offered (R201). -/
def counterThreshold : BitVec 16 := 49152#16

/-- The most notices the notice queue holds (R181). -/
def noticeCapacity : Nat := 24

namespace State

/-- The ALERT line brought up to date (R194). -/
def updateAlert (s : State) : State := s.modStu fun u => { u with alert := alertLevel u }

/-- A flag's record replaced. -/
def putFlag (s : State) (f : FlagId) (x : Flag) : State :=
  s.modStu fun u => { u with flags := upd u.flags f fun _ => x }

/-- A counter plus one, 65535 going to 0 (R200). -/
def bump (s : State) (c : CounterId) : State :=
  s.modStu fun u => { u with counters := upd u.counters c (· + 1) }

/-- The notice sequence counter taken by one notice, 255 going to 0 (R180). -/
def takeNumber (s : State) : State := s.modLnk fun l => { l with seq := l.seq + 1 }

end State

/-- A notice, already numbered, is lost at a full queue (R181): NOTICES_LOST is incremented, then NOTICE_LOST is set.
The COUNTER_HIGH and the FAULT these may offer find the queue full and are lost too. Each of the two can happen once
only in such a chain, so three losses are the most; the first argument bounds them. -/
def loseNotice : Nat → State → State
  | 0, s => s
  | n + 1, s =>
    let s := s.bump cNoticesLost
    let s :=
      if s.stu.counters[cNoticesLost] = counterThreshold && !disabled s.stu (.counterHigh cNoticesLost)
      then loseNotice n s.takeNumber else s
    let wasSet := s.stu.flags[fNoticeLost].isSet
    let s := s.putFlag fNoticeLost ⟨true, false⟩
    if wasSet then s else loseNotice n s.updateAlert.takeNumber

/-- A notice offered to the Link Controller (R180): dropped when masked, else numbered, and queued or lost. -/
def offerNotice (n : Notice) (s : State) : State :=
  if disabled s.stu n then s
  else if s.lnk.notices.length < noticeCapacity then
    (s.modLnk fun l => { l with notices := l.notices ++ [(l.seq, n)] }).takeNumber
  else loseNotice 3 s.takeNumber

/-- A block asks for a flag to be set by a real failure (R190). -/
def setFault (f : FlagId) (s : State) : State :=
  let wasSet := s.stu.flags[f].isSet
  let s := s.putFlag f ⟨true, false⟩
  if wasSet then s else offerNotice (.fault f false) s.updateAlert

/-- A forced failure of a monitor self-test (R190, R199). -/
def forceFault (f : FlagId) (s : State) : State :=
  if s.stu.flags[f].isSet then s
  else offerNotice (.fault f true) (s.putFlag f ⟨true, true⟩).updateAlert

/-- A block asks for a counter to be incremented (R200), with the COUNTER_HIGH of R201. -/
def countUp (c : CounterId) (s : State) : State :=
  let s := s.bump c
  if s.stu.counters[c] = counterThreshold then offerNotice (.counterHigh c) s else s

end Sys2Proof.Machine
end

