-- ==== Sys2Proof/Machine/Transmit.lean ====
section
/-!
DEFINITION. The reply slot and the transmitter's arbiter (R177, R178, R183), and the end of an event at the Link
Controller.
-/

namespace Sys2Proof.Machine

/-- The KIND of the reply to a frame (R175): 80h added, or the KIND itself when it is already 80h or above. -/
def replyKind (kind : Byte) : Byte := if kind.toNat < 0x80 then kind + 0x80 else kind

/-- A reply placed in the reply slot for a request's kind and tag (R178). -/
def placeReplyFor (kind tag : Byte) (status : Status) (fields : List Byte) (s : State) : State :=
  s.modLnk fun l => { l with slot := .full ⟨replyKind kind, tag, status.code :: fields⟩ }

/-- The owner places the reply to the request that holds the slot (R177). -/
def placeReply (status : Status) (fields : List Byte) (s : State) : State :=
  match s.lnk.slot with
  | .pending kind tag => placeReplyFor kind tag status fields s
  | .empty | .full _ | .sending => s

/-- A request refused by its owner: the status alone (R178). -/
def refuse (status : Status) (s : State) : State := placeReply status [] s

/-- The arbiter's decision (R183): with the transmitter idle, the reply, then the head of the notice queue, then the
oldest control report, which takes its number now (R182). -/
def arbitrate (s : State) : State :=
  match s.lnk.tx with
  | some _ => s
  | none =>
    match s.lnk.slot, s.lnk.notices, s.lnk.reports with
    | .full f, _, _ => s.modLnk fun l => { l with slot := .sending, tx := some (.reply f) }
    | _, (seq, n) :: rest, _ => s.modLnk fun l => { l with notices := rest, tx := some (.notice seq n) }
    | _, [], r :: rest =>
      (s.modLnk fun l => { l with reports := rest, tx := some (.notice l.seq (.controlMoved r)) }).takeNumber
    | _, [], [] => s

end Sys2Proof.Machine
end

