-- ==== Sys2Proof/Machine/Output.lean ====
section
/-!
DEFINITION. The CV Output Unit (03_pitch_and_cv_output): glide, pitch and its correction, the codes of the 136 outputs,
the refresh pass and its visits.
-/

namespace Sys2Proof.Machine

/-! ### Inputs of a voice's outputs (R56) -/

/-- A parameter of the voice's part; the default for Part NONE (R56). -/
def voiceParam (s : State) (v : VoiceId) (i : ParamId) : Nat :=
  match (s.voice v).part with
  | none => paramDefaults[i]
  | some p => s.param p i

/-- The Bend of the voice's part; 0 for Part NONE (R56). -/
def voiceBend (s : State) (v : VoiceId) : Int :=
  match (s.voice v).part with
  | none => 0
  | some p => (s.part p).bend

/-- The note and velocity the formulas use: 60 and 64 for a voice that has none (R56). -/
def voiceSound (s : State) (v : VoiceId) : Note × Velocity := (s.voice v).sound.getD (60, 64)

/-! ### Glide (R57 to R60) -/

/-- The target N of a voice's base pitch, in pu (R57). -/
def glideTarget (s : State) (v : VoiceId) : Int :=
  (((voiceSound s v).1.val : Int) - 12 + (voiceParam s v pTranspose : Int) - 24) * 512

/-- The TIME glide rate from G to N (R58): ceil(|N - G| / GLIDE_AMOUNT), or 1 where that gives 0. -/
def timeRate (g n : Int) (amount : Nat) : Nat := max 1 (ceilDiv (n - g).natAbs amount)

/-- G and the TIME rate of a voice replaced. -/
def setGlide (v : VoiceId) (g : Option Int) (rate : Option Nat) (s : State) : State :=
  s.modCvo fun c => { c with glide := upd c.glide v fun _ => g, glideRate := upd c.glideRate v fun _ => rate }

/-- A glide start: the Voice Assigner has written the voice's Note (R58). -/
def glideStart (v : VoiceId) (s : State) : State :=
  let n := glideTarget s v
  let mode := voiceParam s v pGlideMode
  let amount := voiceParam s v pGlideAmount
  match s.cvo.glide[v] with
  | none => setGlide v (some n) none s
  | some g =>
    if mode = 0 || amount = 0 then setGlide v (some n) none s
    else if mode = 2 then setGlide v (some g) (some (timeRate g n amount)) s
    else setGlide v (some g) none s

/-- G becomes invalid and the TIME rate absent (R60), and the held spread 0 (R62): entry to TUNING or DISABLED. -/
def dropGlide (v : VoiceId) (s : State) : State :=
  (setGlide v none none s).modCvo fun c => { c with spread := upd c.spread v fun _ => 0 }

/-- G after a step toward N, N itself when the step would reach or pass it (R59). -/
def stepToward (g n : Int) (step : Nat) : Int :=
  if (n - g).natAbs ≤ step then n else if g < n then g + step else g - step

/-- The movement of G at a visit to output 8v (R59). -/
def moveGlide (v : VoiceId) (s : State) : State :=
  match s.cvo.glide[v] with
  | none => s
  | some g =>
    let n := glideTarget s v
    let mode := voiceParam s v pGlideMode
    let amount := voiceParam s v pGlideAmount
    if mode = 0 || amount = 0 then setGlide v (some n) s.cvo.glideRate[v] s
    else if mode = 2 then
      let rate := s.cvo.glideRate[v].getD (timeRate g n amount)
      setGlide v (some (stepToward g n rate)) (some rate) s
    else setGlide v (some (stepToward g n amount)) s.cvo.glideRate[v] s

/-! ### Bend, spread and pitch (R61 to R63) -/

/-- The bend offset of a voice (R61). -/
def bendPu (s : State) (v : VoiceId) : Int := truncDiv (voiceBend s v * (voiceParam s v pBendRange : Int)) 16

/-- The spread of member i of u with total spread S (R62). -/
def memberSpread (total i u : Nat) : Int :=
  if 2 ≤ u && i < u then truncDiv ((total : Int) * (2 * i - u + 1)) (2 * (u - 1)) else 0

/-- The held spread at a visit to output 8v (R62): kept for a voice on no active list. -/
def visitSpread (v : VoiceId) (s : State) : State :=
  match (s.voice v).part with
  | none => s
  | some p =>
    if v ∈ (s.part p).active then
      let x := if s.param p pVoiceMode = modeUnison
        then memberSpread (s.param p pUnisonSpread) (s.voice v).unisonIndex (s.part p).active.length else 0
      s.modCvo fun c => { c with spread := upd c.spread v fun _ => x }
    else s

/-- P_A of a voice (R63), with N in place of an invalid G (R60). -/
def pitchA (s : State) (v : VoiceId) : Int :=
  s.cvo.glide[v].getD (glideTarget s v) + bendPu s v + s.cvo.spread[v] + s.cvo.masterTune

/-- P_B of a voice (R63). -/
def pitchB (s : State) (v : VoiceId) : Int :=
  pitchA s v + ((voiceParam s v pOscBInterval : Int) - 24) * 512 + ((voiceParam s v pOscBDetune : Int) - 512)

/-! ### Correction (R64 to R66) -/

/-- The lower breakpoint of a pitch within 0..65535 (R64, step 2). -/
def breakpointOf (q : Nat) : Fin 11 := ⟨min (q / 6144) 10, by omega⟩

/-- The interpolated correction of a pitch within 0..65535 (R64, step 3). -/
def correctionAt (t : Vector Int 12) (q : Nat) : Int :=
  let k := breakpointOf q
  let r := q - 6144 * k.val
  t[k.val] + roundDiv ((t[k.val + 1] - t[k.val]) * r) 6144

/-- The DAC code of a pitch (R64). -/
def correctPitch (t : Vector Int 12) (p : Int) : Nat := clampCode (clampCode p + correctionAt t (clampCode p))

/-- A clamp acted in step 1 or step 4 (R66). -/
def pitchClamped (t : Vector Int 12) (p : Int) : Bool :=
  (clampCode p : Int) ≠ p || (correctPitch t p : Int) ≠ clampCode p + correctionAt t (clampCode p)

/-- The pitch clamp flag of an oscillator after a computation; PITCH_CLAMPS counts clear to set (R66). -/
def noteClamp (o : OscId) (clamped : Bool) (s : State) : State :=
  let was := s.cvo.clampFlag[o]
  let s := s.modCvo fun c => { c with clampFlag := upd c.clampFlag o fun _ => clamped }
  if clamped && !was then countUp cPitchClamps s else s

/-- The code of a pitch output from its oscillator's table (R64, R65). -/
def pitchCode (o : OscId) (p : Int) (s : State) : State × Nat :=
  let t := s.tun.tables[o]
  (noteClamp o (pitchClamped t p) s, correctPitch t p)

/-! ### The codes of the outputs (R50, R67, R68, R70, R71) -/

/-- The test code of an oscillator that a channel holds while its voice is TUNING (R71). -/
def testCode (s : State) (o : OscId) : Option Nat :=
  if (s.voice (voiceOfOsc o)).state = .tuning then
    ((List.finRange 4).find? fun c => s.tun.channels[c].osc = some o).map fun c => s.tun.channels[c].code
  else none

/-- The visit to output 8v, OSC_A pitch. -/
def visitOscA (v : VoiceId) (s : State) : State × Nat :=
  match testCode s (oscA v) with
  | some d => (s, d)
  | none =>
    let s := visitSpread v (moveGlide v s)
    pitchCode (oscA v) (pitchA s v) s

/-- The visit to output 8v+1, OSC_B pitch. -/
def visitOscB (v : VoiceId) (s : State) : State × Nat :=
  match testCode s (oscB v) with
  | some d => (s, d)
  | none => pitchCode (oscB v) (pitchB s v) s

/-- The CUTOFF code of a voice (R67). -/
def cutoffCode (s : State) (v : VoiceId) : Nat :=
  let (note, velocity) := voiceSound s v
  clampCode ((voiceParam s v pCutoff : Int) * 64 +
    (voiceParam s v pKeyTrack : Int) * ((note.val : Int) - 60) * 8 +
    (voiceParam s v pVelToCutoff : Int) * velocity.val * 2)

/-- The LEVEL output is forced to 0 in these states (R68). -/
def levelForced (st : VoiceState) : Bool :=
  match st with
  | .quenching | .waiting | .tuning | .disabled => true
  | .idle | .gated | .retrigger | .released => false

/-- The LEVEL code of a voice (R68). -/
def levelCode (s : State) (v : VoiceId) : Nat :=
  if levelForced (s.voice v).state then 0 else voiceParam s v pLevel * 64

/-- The visit to output 8v+k of voice v (R50). -/
def visitVoiceOutput (v : VoiceId) (k : Fin 8) (s : State) : State × Nat :=
  match k with
  | 0 => visitOscA v s
  | 1 => visitOscB v s
  | 2 => (s, cutoffCode s v)
  | 3 => (s, voiceParam s v pResonance * 64)
  | 4 => (s, voiceParam s v pPwA * 64)
  | 5 => (s, voiceParam s v pPwB * 64)
  | 6 => (s, voiceParam s v pMix * 64)
  | 7 => (s, levelCode s v)

/-- The visit to an output of a part (R50, R70): 128+2p AMP_RELEASE, 129+2p FILTER_ENV_AMT. -/
def visitPartOutput (j : Fin 8) (s : State) : State × Nat :=
  let p : PartId := ⟨j.val / 2, by omega⟩
  (s, s.param p (if j.val % 2 = 0 then pAmpRelease else pFilterEnvAmt) * 64)

/-- The computation of an output's code from the state in force (R52). -/
def visitOutput (j : OutputId) (s : State) : State × Nat :=
  if h : j.val < 128 then visitVoiceOutput ⟨j.val / 8, by omega⟩ ⟨j.val % 8, by omega⟩ s
  else visitPartOutput ⟨j.val - 128, by omega⟩ s

/-- The position after the visit of output j: IDLE after 135 (R51). -/
def nextPosition (j : OutputId) : Option OutputId :=
  if h : j.val + 1 < 136 then some ⟨j.val + 1, h⟩ else none

/-- The output's number placed on the output-select bus, its code on the DAC data lines, and the code latched (R51, R53).
DESIGN CHOICE (log 34): the lines keep them after the visit and between passes, until the next visit or a reset; the manual
says only that they are idle before READY (R54). -/
def latch (j : OutputId) (code : Nat) (s : State) : State :=
  s.modCvo fun c =>
    { c with latched := upd c.latched j fun _ => code, bus := some (j, code), position := nextPosition j }

/-- The visit of the pointer output in a READBACK step lets its conversion follow (R115). -/
def markVisited (j : OutputId) (s : State) : State :=
  if s.pns.position = .readback && s.pns.pointer = j then s.modPns fun p => { p with visited := true } else s

/-- The refresh pass timer in ms (R51). -/
def passPeriod : Nat := 1

/-- A refresh pass begins and the pass timer starts (R51). -/
def beginRefreshPass (s : State) : State :=
  s.modCvo fun c => { c with passTimer := some passPeriod, position := some 0 }

/-! ### Commands -/

/-- REFRESH_PASS_TIMER_EXPIRY: a new pass begins (R51). A stopped timer has no expiry (log 4). -/
def execRefreshPassTimerExpiry (s : State) : Host.Outcome State Fault Refusal :=
  match s.cvo.passTimer with
  | none => .next s
  | some _ => .next (beginRefreshPass s)

/-- OUTPUT_VISIT: the output at the position is computed and latched (R51 to R53). Between passes there is no visit. -/
def execOutputVisit (s : State) : Host.Outcome State Fault Refusal :=
  match s.cvo.position with
  | none => .next s
  | some j =>
    let (s, code) := visitOutput j s
    .next (arbitrate (markVisited j (latch j code s)))

end Sys2Proof.Machine
end

