-- ==== Sys2Proof/Machine/Voices.lean ====
section
/-!
DEFINITION. The Voice Assigner's shared operations (01_voices_and_parts, 02_note_allocation): a voice taking a note,
released, quenched, made IDLE, DISABLED or taken into TUNING; the unison start record and stack; part silence and the
PART_SILENT decision.
-/

namespace Sys2Proof.Machine

/-! ### Engaged parts and PART_SILENT (R49) -/

/-- A GATED or RETRIGGER voice sounds. -/
def sounding (x : Voice) : Bool := x.state = .gated || x.state = .retrigger

/-- The voice engages its part by itself (R49): it sounds, or quenches with a note pending. -/
def engages (x : Voice) : Bool := sounding x || (x.state = .quenching && x.pendingNote.isSome)

/-- The part is engaged (R49). -/
def engaged (s : State) (p : PartId) : Bool :=
  (s.pool p).any (fun v => engages (s.voice v)) || (s.part p).start.isSome

/-- The PART_SILENT decision for a part at the end of an event's handling that began in `before` (R49). -/
def silentDecision (before : State) (p : PartId) (s : State) : State :=
  if engaged before p && !engaged s p then offerNotice (.partSilent p) s else s

/-- The decision for every part, in ascending part order. -/
def silentDecisions (before s : State) : State := allParts.foldl (fun s p => silentDecision before p s) s

/-! ### Changes of one voice -/

/-- The voice record with its timers stopped, its pending note dropped and key_held and sustained cleared. -/
def Voice.quiet (x : Voice) : Voice :=
  { x with keyHeld := false, sustained := false, pendingNote := none, releaseHold := none, quench := none, gap := none }

/-- The release hold duration for a part's AMP_RELEASE (R3), in ms. -/
def releaseHoldTime (s : State) (p : PartId) : Nat := 20 + 10 * s.param p pAmpRelease

/-- The voice becomes IDLE where it stands (R1, R3). -/
def becomeIdle (v : VoiceId) (s : State) : State := (s.modVoice v Voice.quiet).enter v .idle

/-- The voice enters RELEASED with the release hold timer of part p (R3). -/
def becomeReleased (p : PartId) (v : VoiceId) (s : State) : State :=
  (s.modVoice v fun x => { x.quiet with releaseHold := some (releaseHoldTime s p) }).enter v .released

/-- VAS releases a voice of part p that is GATED, RETRIGGER, QUENCHING or WAITING (R23). -/
def releaseVoice (p : PartId) (v : VoiceId) (s : State) : State :=
  (becomeReleased p v (s.leaveActive p v)).joinFree p v

/-- The voice of part p takes note n with velocity vel at once (R22), and a glide starts (R58). `held` is key_held;
sustained is its opposite. -/
def takeNote (p : PartId) (v : VoiceId) (n : Note) (vel : Velocity) (held : Bool) (s : State) : State :=
  let onFree := v ∈ (s.part p).free
  let index := fun x : Voice => if s.param p pVoiceMode = modeUnison then x.unisonIndex else 0
  let s := (s.modVoice v fun x =>
    { x.quiet with
      sound := some (n, vel), lastPlayed := some n, keyHeld := held, sustained := !held, unisonIndex := index x }).enter
        v .gated
  let s := if onFree then (s.leaveFree p v).joinActive p v else s
  glideStart v s

/-- The voice enters QUENCHING with its quench timer started from part p's QUENCH_TIME (R3) and the pending note
given. -/
def beginQuench (p : PartId) (v : VoiceId) (next : Option PendingNote) (s : State) : State :=
  (s.modVoice v fun x => { x.quiet with quench := some (s.param p pQuenchTime), pendingNote := next }).enter
    v .quenching

/-- The pending note of a voice replaced. -/
def setPending (v : VoiceId) (next : Option PendingNote) (s : State) : State :=
  s.modVoice v fun x => { x with pendingNote := next }

/-- key_held and sustained of a voice. -/
def setHeld (v : VoiceId) (keyHeld sustained : Bool) (s : State) : State :=
  s.modVoice v fun x => { x with keyHeld := keyHeld, sustained := sustained }

/-! ### The unison start record and stack (R38 to R42) -/

/-- A member that a cancelled start record leaves behind (R40, R12): WAITING becomes IDLE on the free list, QUENCHING
loses any pending note and ends IDLE at its expiry. -/
def cancelMember (p : PartId) (s : State) (v : VoiceId) : State :=
  if (s.voice v).part ≠ some p then s
  else match (s.voice v).state with
    | .waiting => (becomeIdle v (s.leaveActive p v)).joinFree p v
    | .quenching => setPending v none s
    | .idle | .gated | .retrigger | .released | .tuning | .disabled => s

/-- The part's unison start record, if any, is cancelled (R40). -/
def cancelStart (p : PartId) (s : State) : State :=
  match (s.part p).start with
  | none => s
  | some r => r.members.foldl (cancelMember p) (s.modPart p fun x => { x with start := none })

/-- A voice placed among voices ordered by their unison member index. -/
def insertByIndex (s : State) (v : VoiceId) : List VoiceId → List VoiceId
  | [] => [v]
  | w :: ws => if (s.voice v).unisonIndex ≤ (s.voice w).unisonIndex then v :: w :: ws else w :: insertByIndex s v ws

/-- The members of a part's stack, its active list in member index order (2.7). -/
def stackMembers (s : State) (p : PartId) : List VoiceId := (s.part p).active.foldr (insertByIndex s) []

/-- The voices numbered 0 upward in their order. -/
def numberFrom : Nat → List VoiceId → State → State
  | _, [], s => s
  | i, v :: vs, s => numberFrom (i + 1) vs (s.modVoice v fun x => { x with unisonIndex := i })

/-- A voice has left the active list of part p by a tune start, a disable or a pool change (R48): a start record it
belongs to is cancelled; a running UNISON stack is renumbered (R42). -/
def memberLost (p : PartId) (v : VoiceId) (s : State) : State :=
  match (s.part p).start with
  | some r => if v ∈ r.members then cancelStart p s else s
  | none => if s.param p pVoiceMode = modeUnison then numberFrom 0 (stackMembers s p) s else s

/-! ### Part silence (R44 to R46) -/

/-- The forms of a part silence (R44). -/
inductive SilenceForm where
  | release | quench
  deriving DecidableEq, Repr

/-- The sustained mark removed from the pending note of a voice. -/
def unmarkPending (s : State) (v : VoiceId) : State :=
  s.modVoice v fun x => { x with pendingNote := x.pendingNote.map fun n => { n with sustained := false } }

/-- The QUENCH form on one active voice (R44): a voice already QUENCHING keeps its running timer. -/
def quenchSilent (p : PartId) (s : State) (v : VoiceId) : State :=
  if (s.voice v).state = .quenching then setHeld v false false (setPending v none s)
  else beginQuench p v none s

/-- A part silence (R44). -/
def partSilence (form : SilenceForm) (p : PartId) (s : State) : State :=
  let s := s.modPart p fun x => { x with start := none, held := [] }
  let s := (s.pool p).foldl unmarkPending s
  match form with
  | .release => (s.part p).active.foldl (fun s v => releaseVoice p v s) s
  | .quench => (s.part p).active.foldl (quenchSilent p) s

/-- An assignment-parameter change: the part is silenced in RELEASE form, with its PART_SILENT decision (R46, R126). -/
def assignmentChange (p : PartId) (s : State) : State := silentDecision s p (partSilence .release p s)

/-! ### Leaving service (R13, R85) -/

/-- The voice enters DISABLED, on no list: its G is invalid (R60), its spread 0 (R62), and it leaves the pass list of a
background pass (R93). -/
def becomeDisabled (v : VoiceId) (s : State) : State :=
  (dropGlide v ((s.modVoice v Voice.quiet).enter v .disabled)).modTun fun t =>
    { t with passList := t.passList.filter (· ≠ v) }

/-- The voice is GATED, RETRIGGER, QUENCHING or WAITING. -/
def isActive (st : VoiceState) : Bool :=
  match st with
  | .gated | .retrigger | .quenching | .waiting => true
  | .idle | .released | .tuning | .disabled => false

/-- What R48 asks once the voice, active in `before`, has left its part. -/
def afterLeaving (before : State) (v : VoiceId) (s : State) : State :=
  match (before.voice v).part with
  | none => s
  | some p => if isActive (before.voice v).state then memberLost p v s else s

/-- The disable of R13 on a voice that is not TUNING. -/
def disableOutOfTune (v : VoiceId) (s : State) : State :=
  if (s.voice v).state = .disabled then s
  else silentDecisions s (afterLeaving s v (becomeDisabled v (s.leaveLists v)))

/-- The voice is taken into TUNING (R85). -/
def enterTuning (v : VoiceId) (s : State) : State :=
  afterLeaving s v (dropGlide v (((s.leaveLists v).modVoice v Voice.quiet).enter v .tuning))

end Sys2Proof.Machine
end

