-- ==== Sys2Proof/Machine/Tuning.lean ====
section
/-!
DEFINITION. The Tuning Unit (04_auto_tune): measurement channels and the correction search, the tune job, the
background pass, their requests and their events.
-/

namespace Sys2Proof.Machine

/-! ### Channels (R73 to R77) -/

/-- The edge timer in ms (R75). -/
def edgeTime : Nat := 100
/-- The count timer in ms (R75). -/
def countTime : Nat := 200
/-- The most reference cycles a channel counts (R73). -/
def referenceMax : Nat := 1600000

/-- The test code at which the search of breakpoint b of oscillator o starts, from its table in force (R74, R79). -/
def startCode (s : State) (o : OscId) (b : Nat) : Nat := clampCode (6144 * b + s.tun.tables[o].toList.getD b 0)

/-- The channel enters SETTLE with the SETTLE_TIME in force (R74, R98); the timers of ARM and COUNT do not run there
(R73). -/
def enterSettle (c : MeasId) (s : State) : State :=
  s.modChannel c fun x =>
    { x with state := .settle, settleTimer := some s.tun.settleTime, edgeTimer := none, countTimer := none }

/-- The channel is given an oscillator of a TUNING voice (R74). -/
def giveOscillator (c : MeasId) (o : OscId) (s : State) : State :=
  enterSettle c (s.modChannel c fun x =>
    { x with osc := some o, breakpoint := 1, measurements := 0, code := startCode s o 1,
             candidates := Vector.replicate 9 none })

/-- The channel releases its oscillator and enters IDLE with its timers stopped and its candidates discarded (R77, R80,
R82). Its other fields keep their values (log 21). -/
def releaseChannel (c : MeasId) (s : State) : State :=
  s.modChannel c fun x =>
    { x with state := .idle, osc := none, settleTimer := none, edgeTimer := none, countTimer := none,
             candidates := Vector.replicate 9 none }

/-- The channel that holds an oscillator. -/
def channelOf (s : State) (o : OscId) : Option MeasId := (List.finRange 4).find? fun c => s.tun.channels[c].osc = some o

/-- Every channel that holds an oscillator of the voice is stopped (R77). -/
def stopVoice (v : VoiceId) (s : State) : State :=
  (List.finRange 4).foldl (fun s c =>
    match s.tun.channels[c].osc with
    | some o => if voiceOfOsc o = v then releaseChannel c s else s
    | none => s) s

/-! ### Intervals and the background pass (R92 to R97) -/

/-- The background interval timer starts with the full interval, if BACKGROUND_INTERVAL is above 0 (R92). -/
def startInterval (s : State) : State :=
  if s.tun.interval = 0 then s
  else s.modTun fun t => { t with intervalTimer := some (t.interval * 60000) }

/-- The voice is taken by the background pass: channels 0 and 1 search its oscillators (R95). -/
def takeBackground (v : VoiceId) (s : State) : State :=
  let s := (enterTuning v s).modTun fun t => { t with background := some v, backgroundA := none, backgroundB := none }
  giveOscillator 1 (oscB v) (giveOscillator 0 (oscA v) s)

/-- A running pass that measures no voice takes the listed voice nearest the head that is IDLE (R94). -/
def advancePass (s : State) : State :=
  match s.tun.background with
  | some _ => s
  | none =>
    match s.tun.passList.find? fun v => (s.voice v).state = .idle with
    | none => s
    | some v => takeBackground v s

/-- The background pass at the end of an event that began in `before` (R93, R94, log 7): a pass whose list has become
empty ends and the interval timer starts; a pass that goes on takes its next voice. -/
def settlePass (before s : State) : State :=
  if before.tun.passList ≠ [] && s.tun.passList = [] then startInterval s else advancePass s

/-- The background voice is let go: no voice is measured by the pass. -/
def clearBackground (s : State) : State :=
  s.modTun fun t => { t with background := none, backgroundA := none, backgroundB := none }

/-- The background voice yields (R96): both searches stop, TUNE_YIELDS is incremented, the voice is IDLE at its part's
free list tail and moves to the tail of the pass list. -/
def yieldBackground (s : State) : State :=
  match s.tun.background with
  | none => s
  | some b =>
    let s := countUp cTuneYields (stopVoice b s)
    let s := (becomeIdle b s).joinOwnFree b
    (clearBackground s).modTun fun t => { t with passList := t.passList.filter (· ≠ b) ++ [b] }

/-- A running pass is abandoned (R97). -/
def abandonPass (s : State) : State := (yieldBackground s).modTun fun t => { t with passList := [] }

/-! ### The tune job (R83, R86, R89) -/

/-- An entry of the job changed. -/
def modEntry (v : VoiceId) (f : JobEntry → JobEntry) (s : State) : State :=
  s.modTun fun t => { t with job := t.job.map fun j =>
    { j with entries := j.entries.map fun e => if e.voice = v then f e else e } }

/-- The job's entry of a voice. -/
def entryOf (s : State) (v : VoiceId) : Option JobEntry :=
  match s.tun.job with
  | none => none
  | some j => j.entries.find? fun e => e.voice = v

/-- A pair with no MEASURING entry goes to the QUEUED entry of the lowest voice (R86). -/
def givePair (pair : Fin 2) (s : State) : State :=
  match s.tun.job with
  | none => s
  | some j =>
    if j.entries.any fun e => e.status = .measuring && e.pair = some pair then s
    else match j.entries.find? fun e => e.status = .queued with
      | none => s
      | some e =>
        let s := modEntry e.voice (fun e => { e with status := .measuring, pair := some pair }) s
        giveOscillator ⟨2 * pair.val + 1, by omega⟩ (oscB e.voice)
          (giveOscillator ⟨2 * pair.val, by omega⟩ (oscA e.voice) s)

/-- Both pairs given out (R86). -/
def givePairs (s : State) : State := givePair 1 (givePair 0 s)

/-- The job ends: TUNE_DONE is queued, the job removed and the interval timer started (R89). -/
def finishJob (aborted : Bool) (s : State) : State :=
  match s.tun.job with
  | none => s
  | some j => startInterval ((offerNotice (.tuneDone aborted j.tag) s).modTun fun t => { t with job := none })

/-- The entry of a voice is DONE with the results given, its pair is given out again, and the job ends when every entry
is DONE (R87, R90). -/
def entryDone (v : VoiceId) (a b : OscResult) (s : State) : State :=
  let s := modEntry v (fun e => { e with status := .done, pair := none, resultA := some a, resultB := some b }) s
  let s := givePairs s
  match s.tun.job with
  | none => s
  | some j => if j.entries.all fun e => e.status = .done then finishJob false s else s

/-! ### Verdicts and the end of a voice's tune (R80 to R82, R87, R95) -/

/-- The voice a tune hands back to VAS (R87). -/
def handBack (v : VoiceId) (a b : OscResult) (wasDisabled : Bool) (s : State) : State :=
  if a = .noSignal || b = .noSignal then setFault fVoiceDisabled (becomeDisabled v s)
  else if (a = .ok && b = .ok) || !wasDisabled then (becomeIdle v s).joinOwnFree v
  else becomeDisabled v s

/-- The voice moves to the tail of the tune-age list (R91). -/
def touchAge (v : VoiceId) (s : State) : State :=
  s.modTun fun t => { t with ageList := t.ageList.filter (· ≠ v) ++ [v] }

/-- A voice of the job ends with both verdicts (R87). -/
def endRequested (v : VoiceId) (a b : OscResult) (wasDisabled : Bool) (s : State) : State :=
  entryDone v a b (offerNotice (.tuneVoiceDone v a b) (touchAge v (handBack v a b wasDisabled s)))

/-- The background voice ends with both verdicts (R95); the pass takes its next voice at the end of the event. -/
def endBackground (v : VoiceId) (a b : OscResult) (s : State) : State :=
  let s := offerNotice (.tuneVoiceDone v a b) (touchAge v (handBack v a b false s))
  (clearBackground s).modTun fun t => { t with passList := t.passList.filter (· ≠ v) }

/-- The verdict of an oscillator recorded; the voice's tune ends at its later verdict (R87, R95). -/
def giveVerdict (o : OscId) (r : OscResult) (s : State) : State :=
  let v := voiceOfOsc o
  let first := o.val % 2 = 0
  if s.tun.background = some v then
    let s := s.modTun fun t => if first then { t with backgroundA := some r } else { t with backgroundB := some r }
    match s.tun.backgroundA, s.tun.backgroundB with
    | some a, some b => endBackground v a b s
    | _, _ => s
  else
    let s := modEntry v (fun e => if first then { e with resultA := some r } else { e with resultB := some r }) s
    match entryOf s v with
    | none => s
    | some e =>
      match e.resultA, e.resultB with
      | some a, some b => endRequested v a b e.wasDisabled s
      | _, _ => s

/-- A failure verdict (R80): TUNE_FAILS, TUNE_FAIL, the channel freed, the table kept. -/
def failOscillator (c : MeasId) (r : OscResult) (s : State) : State :=
  match s.tun.channels[c].osc with
  | none => s
  | some o => giveVerdict o r (setFault fTuneFail (countUp cTuneFails (releaseChannel c s)))

/-- The table of a successful search, from the candidates of breakpoints 1 to 9 (R82). -/
def finishedTable (cand : Vector (Option Int) 9) : Vector Int 12 :=
  let c := fun b : Nat => (cand.toList.getD (b - 1) none).getD 0
  let lim := clampInt (-4096) 4095
  let c10 := lim (2 * c 9 - c 8)
  #v[lim (2 * c 1 - c 2), c 1, c 2, c 3, c 4, c 5, c 6, c 7, c 8, c 9, c10, lim (2 * c10 - c 9)]

/-- Breakpoint 9 has converged: the table is replaced whole (R82). -/
def succeedOscillator (c : MeasId) (s : State) : State :=
  match s.tun.channels[c].osc with
  | none => s
  | some o => giveVerdict o .ok (releaseChannel c (s.setTable o (finishedTable s.tun.channels[c].candidates)))

/-! ### The correction search (R78, R79) -/

/-- The target count T (4.3.1). -/
def targetCount : Nat := 244624
/-- The bounds of a count in range (R78). -/
def countLow : Nat := 183468
def countHigh : Nat := 326165

/-- The step of a measurement m (R78, step 2). -/
def searchStep (m : Nat) : Int := roundDiv (((m : Int) - targetCount) * 8864) targetCount

/-- The channel's breakpoint has converged with code d (R78 step 3, R79). -/
def converge (c : MeasId) (o : OscId) (s : State) : State :=
  let x := s.tun.channels[c]
  let b := x.breakpoint
  let found := (x.code : Int) - 6144 * b
  let s := s.modChannel c fun x =>
    { x with candidates := Vector.ofFn fun i => if i.val + 1 = b then some found else x.candidates[i] }
  if b < 9 then
    enterSettle c (s.modChannel c fun x =>
      { x with breakpoint := b + 1, measurements := 0, code := startCode s o (b + 1) })
  else succeedOscillator c s

/-- The evaluation of a measurement m (R78). -/
def evaluate (c : MeasId) (o : OscId) (m : Nat) (s : State) : State :=
  let x := s.tun.channels[c]
  let step := searchStep m
  let next := (x.code : Int) + step
  if m < countLow || countHigh < m then failOscillator c .outOfRange s
  else if step = 0 then converge c o s
  else if x.measurements = 8 then failOscillator c .noConverge s
  else if next < 0 || 65535 < next || next - 6144 * x.breakpoint < -4096 || 4095 < next - 6144 * x.breakpoint then
    failOscillator c .outOfRange s
  else enterSettle c (s.modChannel c fun x => { x with code := next.toNat })

/-- The number of edges counted at breakpoint b (R76). -/
def edgesWanted (b : Nat) : Nat := 2 ^ (b - 1)

/-- A rising edge in ARM: COUNT begins (R75). -/
def beginCount (c : MeasId) (s : State) : State :=
  s.modChannel c fun x =>
    { x with state := .count, edgeTimer := none, countTimer := some countTime, edges := 0, reference := 0 }

/-- A rising edge in COUNT after `cycles` more reference cycles (R76, log 14). -/
def countEdge (c : MeasId) (o : OscId) (cycles : Nat) (s : State) : State :=
  let s := s.modChannel c fun x =>
    { x with edges := x.edges + 1, reference := min referenceMax (x.reference + cycles) }
  let x := s.tun.channels[c]
  if x.edges < edgesWanted x.breakpoint then s
  else evaluate c o x.reference
    (s.modChannel c fun x => { x with countTimer := none, measurements := x.measurements + 1 })

/-- A rising edge at an oscillator's sense input (R75 to R77). -/
def risingEdge (o : OscId) (cycles : Nat) (s : State) : State :=
  match channelOf s o with
  | none => s
  | some c =>
    match s.tun.channels[c].state with
    | .arm => beginCount c s
    | .count => countEdge c o cycles s
    | .idle | .settle => s

/-! ### Disables by the readback monitor (R13, R90, R117) -/

/-- The tune of a TUNING voice is abandoned and the voice becomes DISABLED (R90). -/
def abandonTune (v : VoiceId) (s : State) : State :=
  let s := becomeDisabled v (stopVoice v s)
  if s.tun.background = some v then clearBackground s
  else match entryOf s v with
    | none => s
    | some e =>
      if e.status = .done then s
      else
        let a := e.resultA.getD .notDone
        let b := e.resultB.getD .notDone
        entryDone v a b (offerNotice (.tuneVoiceDone v a b) s)

/-- The disable of R13 whatever the voice's state. -/
def disableVoice (v : VoiceId) (s : State) : State :=
  if (s.voice v).state = .tuning then abandonTune v s else disableOutOfTune v s

/-! ### Requests -/

/-- A requested tune is made of the listed voices (R84, R85). -/
def startTune (tag : Byte) (listed : List VoiceId) (before : State) : State :=
  let s := if before.tun.passList = [] then before else abandonPass before
  let entries := listed.map fun v =>
    { voice := v, status := .queued, pair := none, wasDisabled := (s.voice v).state = .disabled,
      resultA := none, resultB := none }
  let s := s.modTun fun t => { t with intervalTimer := none, job := some ⟨tag, entries⟩ }
  givePairs (silentDecisions before (listed.foldl (fun s v => enterTuning v s) s))

/-- TUNE_START (R84). With a mask of 0 while a job runs both refusals apply and R84 gives no order: BAD_VALUE is the model's
answer (DESIGN CHOICE, log 33). -/
def tuneStartRequest (tag : Byte) (mask : BitVec 16) (s : State) : State :=
  if mask = 0 then refuse .badValue s
  else if s.tun.job.isSome then refuse .busy s
  else placeReply .ok [] (startTune tag (allVoices.filter fun v => mask.getLsbD v.val) s)

/-- A TUNING voice handed back by TUNE_ABORT (R89). -/
def abortVoice (s : State) (v : VoiceId) : State :=
  if (s.voice v).state ≠ .tuning then s
  else
    let silent :=
      if s.tun.background = some v then s.tun.backgroundA = some .noSignal || s.tun.backgroundB = some .noSignal
      else (entryOf s v).any fun e => e.resultA = some .noSignal || e.resultB = some .noSignal
    if silent then setFault fVoiceDisabled (becomeDisabled v s)
    else if (entryOf s v).any fun e => e.wasDisabled then becomeDisabled v s
    else (becomeIdle v s).joinOwnFree v

/-- All tuning stops (R89). -/
def abortTuning (s : State) : State :=
  if s.tun.job.isNone && s.tun.passList = [] then s
  else
    let s := (List.finRange 4).foldl (fun s c => if s.tun.channels[c].osc.isSome then releaseChannel c s else s) s
    let s := (clearBackground (allVoices.foldl abortVoice s)).modTun fun t => { t with passList := [] }
    if s.tun.job.isSome then finishJob true s else startInterval s

/-- TUNE_ABORT (R89). -/
def tuneAbortRequest (s : State) : State := placeReply .ok [] (abortTuning s)

/-- GET_TUNING (R99). -/
def getTuningRequest (osc : Byte) (s : State) : State :=
  match ident? 32 osc.toNat with
  | none => refuse .badValue s
  | some o => placeReply .ok (s.tun.tables[o].toList.flatMap signedWord) s

/-- RESET_TUNING (R100). -/
def resetTuningRequest (mask : BitVec 32) (s : State) : State :=
  let chosen := (List.finRange 32).filter fun o => mask.getLsbD o.val
  if chosen.any fun o => (s.voice (voiceOfOsc o)).state = .tuning then refuse .busy s
  else placeReply .ok [] (chosen.foldl (fun s o => s.setTable o (Vector.replicate 12 0)) s)

/-- A write of BACKGROUND_INTERVAL, clamped already (R92). -/
def writeInterval (n : Nat) (s : State) : State :=
  let s := s.modTun fun t => { t with interval := n }
  if s.tun.job.isSome then s
  else if s.tun.passList ≠ [] then (if n = 0 then abandonPass s else s)
  else s.modTun fun t => { t with intervalTimer := if n = 0 then none else some (n * 60000) }

/-! ### Commands -/

/-- SETTLE_EXPIRY: SETTLE to ARM, the edge timer starts (R74, R75). -/
def execSettleExpiry (c : MeasId) (s : State) : Host.Outcome State Fault Refusal :=
  match s.tun.channels[c].settleTimer with
  | none => .next s
  | some _ => .next (s.modChannel c fun x =>
      { x with state := .arm, settleTimer := none, edgeTimer := some edgeTime })

/-- OSC_RISING_EDGE: a rising edge at oscillator o's sense input (R75 to R82). -/
def execOscRisingEdge (o : OscId) (cycles : Nat) (s : State) : Host.Outcome State Fault Refusal :=
  .next (arbitrate (settlePass s (risingEdge o cycles s)))

/-- EDGE_TIMER_EXPIRY: NO_SIGNAL (R75, R81). -/
def execEdgeTimerExpiry (c : MeasId) (s : State) : Host.Outcome State Fault Refusal :=
  match s.tun.channels[c].edgeTimer with
  | none => .next s
  | some _ => .next (arbitrate (settlePass s (failOscillator c .noSignal s)))

/-- COUNT_TIMER_EXPIRY: NO_SIGNAL (R76, R81). -/
def execCountTimerExpiry (c : MeasId) (s : State) : Host.Outcome State Fault Refusal :=
  match s.tun.channels[c].countTimer with
  | none => .next s
  | some _ => .next (arbitrate (settlePass s (failOscillator c .noSignal s)))

/-- The start of a background pass (R93): the tune-age list less the DISABLED voices. -/
def beginPass (s : State) : State :=
  let listed := s.tun.ageList.filter fun v => (s.voice v).state ≠ .disabled
  let s := s.modTun fun t => { t with intervalTimer := none, passList := listed }
  if listed = [] then startInterval s else advancePass s

/-- BACKGROUND_INTERVAL_EXPIRY: a background pass begins (R92, R93). -/
def execBackgroundIntervalExpiry (s : State) : Host.Outcome State Fault Refusal :=
  match s.tun.intervalTimer with
  | none => .next s
  | some _ => .next (beginPass s)

end Sys2Proof.Machine
end

