-- ==== Sys2Proof/Machine/Keys.lean ====
section
/-!
DEFINITION. Note allocation (02_note_allocation): the performance messages as VAS carries them out, in POLY, MONO and
UNISON, and the expiries of the voice timers.
-/

namespace Sys2Proof.Machine

/-! ### Held list and priority note (R21, R34) -/

/-- The held list after a KEY_DOWN of note n (R21). -/
def heldAfterDown (held : List Note) (n : Note) : List Note :=
  if n ∈ held then held.filter (· ≠ n) ++ [n]
  else if held.length < 16 then held ++ [n]
  else held.tail ++ [n]

/-- The lowest note of a list. -/
def lowest : List Note → Option Note
  | [] => none
  | n :: ns => some (ns.foldl (fun a b => if b < a then b else a) n)

/-- The highest note of a list. -/
def highest : List Note → Option Note
  | [] => none
  | n :: ns => some (ns.foldl (fun a b => if a < b then b else a) n)

/-- The priority note of a held list under NOTE_PRIORITY (R34): 0 LAST, 1 LOW, 2 HIGH. -/
def priorityNote (rule : Nat) (held : List Note) : Option Note :=
  if rule = 1 then lowest held else if rule = 2 then highest held else held.getLast?

/-- The note a voice holds (R22), WAITING apart. -/
def Voice.heldNote (x : Voice) : Option Note :=
  match x.state with
  | .gated | .retrigger => x.sound.map (·.1)
  | .quenching => x.pendingNote.map (·.note)
  | .idle | .released | .waiting | .tuning | .disabled => none

/-- The velocity R34 takes from a voice: its current or pending velocity, or 64. -/
def Voice.heldVelocity (x : Voice) : Velocity :=
  match x.state with
  | .gated | .retrigger => (x.sound.map (·.2)).getD 64
  | .quenching => (x.pendingNote.map (·.velocity)).getD 64
  | .idle | .released | .waiting | .tuning | .disabled => 64

/-- The velocity that goes with priority note P (R34): the arriving key's when P is its note, else the voice's. -/
def velocityFor (arriving : Option (Note × Velocity)) (P : Note) (x : Option Voice) : Velocity :=
  match arriving with
  | some (n, vel) => if n = P then vel else (x.map Voice.heldVelocity).getD 64
  | none => (x.map Voice.heldVelocity).getD 64

/-- The arriving KEY_DOWN is of the note P that the voice or record already holds (R36). -/
def restrikes (arriving : Option (Note × Velocity)) (P : Note) (current : Option Note) : Bool :=
  arriving.map (·.1) = some P && current = some P

/-! ### Obtaining a voice (R26, R27) -/

/-- The voice a KEY_DOWN of note n takes from the free list (R26). -/
def chooseFree (s : State) (p : PartId) (n : Note) : Option VoiceId :=
  let free := (s.part p).free
  if s.param p pSameNote = 1 then
    (free.find? fun v => (s.voice v).state = .released && (s.voice v).lastPlayed = some n).or free.head?
  else free.head?

/-- A free voice leaves its free list for the active list tail. -/
def freeToActive (p : PartId) (v : VoiceId) (s : State) : State := (s.leaveFree p v).joinActive p v

/-- The free voice is treated by its state and TAIL_QUENCH (R26). -/
def takeFree (p : PartId) (v : VoiceId) (n : Note) (vel : Velocity) (s : State) : State :=
  if (s.voice v).state = .released && s.vas.tailQuench = 1 then
    freeToActive p v (beginQuench p v (some ⟨n, vel, false⟩) s)
  else takeNote p v n vel true s

/-- The background voice, when it belongs to the part's pool (R27). -/
def yieldingVoice (s : State) (p : PartId) : Option VoiceId :=
  s.tun.background.filter fun b => (s.voice b).part = some p

/-- A voice obtained for a note from the free list, or by a yield when that is empty (R26, R27, R35). -/
def obtainVoice (p : PartId) (n : Note) (vel : Velocity) (s : State) : Option State :=
  match chooseFree s p n with
  | some v => some (takeFree p v n vel s)
  | none => (yieldingVoice s p).map fun b => takeFree p b n vel (yieldBackground s)

/-! ### POLY (R25 to R30) -/

/-- KEYS_ACCEPTED (R24). -/
def acceptKey (p : PartId) (s : State) : State := countUp (cKeysAccepted p) s
/-- KEYS_DROPPED (R24). -/
def dropKey (p : PartId) (s : State) : State := countUp (cKeysDropped p) s

/-- The voice of the part that sounds note n. -/
def soundingVoice (s : State) (p : PartId) (n : Note) : Option VoiceId :=
  (s.part p).active.find? fun v => sounding (s.voice v) && (s.voice v).sound.map (·.1) = some n

/-- The QUENCHING voice of the part whose pending note is n. -/
def pendingVoice (s : State) (p : PartId) (n : Note) : Option VoiceId :=
  (s.part p).active.find? fun v =>
    (s.voice v).state = .quenching && (s.voice v).pendingNote.map (·.note) = some n

/-- A voice enters RETRIGGER with its gap timer started from GATE_GAP (R3, R32). -/
def beginGap (v : VoiceId) (s : State) : State :=
  (s.modVoice v fun x => { x with gap := some s.vas.gateGap }).enter v .retrigger

/-- A same-note KEY_DOWN with SAME_NOTE = REUSE retriggers the sounding voice (R25). -/
def reuseVoice (p : PartId) (v : VoiceId) (n : Note) (vel : Velocity) (s : State) : State :=
  let s := if (s.voice v).state = .gated then beginGap v s else s
  (s.modVoice v fun x => { x with sound := some (n, vel), keyHeld := true, sustained := false }).toActiveTail p v

/-- The velocity QUIETEST compares (R28). -/
def stealVelocity (s : State) (v : VoiceId) : Nat := ((s.voice v).sound.map (·.2.val)).getD 0

/-- The victim among candidates in active-list order: the earliest, or under QUIETEST the lowest Velocity, ties to the
earliest (R28). -/
def pickVictim (s : State) (rule : Nat) : List VoiceId → Option VoiceId
  | [] => none
  | v :: vs =>
    if rule = 1 then some (vs.foldl (fun best w => if stealVelocity s w < stealVelocity s best then w else best) v)
    else some v

/-- The victim of a steal, from the first non-empty tier (R28); none with STEAL_RULE NONE. -/
def stealVictim (s : State) (p : PartId) : Option VoiceId :=
  let rule := s.param p pStealRule
  let active := (s.part p).active
  let quiet := fun (withNote : Bool) v => (s.voice v).state = .quenching && (s.voice v).pendingNote.isSome = withNote
  if rule = 2 then none
  else (active.find? (quiet false)).or
    ((pickVictim s rule (active.filter fun v => sounding (s.voice v) && (s.voice v).sustained)).or
      ((pickVictim s rule (active.filter fun v => sounding (s.voice v) && !(s.voice v).sustained)).or
        (active.find? (quiet true))))

/-- The victim takes the new note (R29). -/
def stealVoice (p : PartId) (v : VoiceId) (n : Note) (vel : Velocity) (s : State) : State :=
  let next := some ⟨n, vel, false⟩
  let x := s.voice v
  if sounding x then (beginQuench p v next s).toActiveTail p v
  else if x.pendingNote.isSome then setPending v next s
  else (setPending v next s).toActiveTail p v

/-- The choice of a voice for a POLY key: a free voice, a yield, a steal, or the key is dropped (R26 to R29). -/
def polyAllocate (p : PartId) (n : Note) (vel : Velocity) (s : State) : State :=
  match obtainVoice p n vel s with
  | some s => acceptKey p s
  | none =>
    match stealVictim s p with
    | some v => acceptKey p (countUp (cSteals p) (stealVoice p v n vel s))
    | none => dropKey p s

/-- A POLY part's KEY_DOWN after the held-list update (R25). -/
def polyDown (p : PartId) (n : Note) (vel : Velocity) (s : State) : State :=
  match soundingVoice s p n with
  | some v =>
    if s.param p pSameNote = 1 then acceptKey p (reuseVoice p v n vel s)
    else polyAllocate p n vel (releaseVoice p v s)
  | none =>
    match pendingVoice s p n with
    | some v => acceptKey p (setPending v (some ⟨n, vel, false⟩) s)
    | none => polyAllocate p n vel s

/-- A POLY part's KEY_UP after the held-list removal (R30). -/
def polyUp (p : PartId) (n : Note) (s : State) : State :=
  match (s.part p).active.find? fun v =>
      sounding (s.voice v) && (s.voice v).keyHeld && (s.voice v).sound.map (·.1) = some n with
  | some v => if (s.part p).pedal then setHeld v false true s else releaseVoice p v s
  | none =>
    match pendingVoice s p n with
    | some v =>
      if (s.part p).pedal then
        setPending v ((s.voice v).pendingNote.map fun x => { x with sustained := true }) s
      else setPending v none s
    | none => s

/-! ### MONO and UNISON (R34 to R42) -/

/-- Note, Velocity and Last-played note written at a priority change, with its glide start (R36, R58). -/
def writeNote (v : VoiceId) (n : Note) (vel : Velocity) (s : State) : State :=
  glideStart v (s.modVoice v fun x => { x with sound := some (n, vel), lastPlayed := some n })

/-- The mono voice, or a member of a running stack, meets the priority note P (R36, R42). -/
def rePitch (p : PartId) (arriving : Option (Note × Velocity)) (P : Note) (s : State) (v : VoiceId) : State :=
  let x := s.voice v
  let vel := velocityFor arriving P (some x)
  let acts := x.heldNote ≠ some P || restrikes arriving P x.heldNote
  match x.state with
  | .gated =>
    let s := setHeld v true false s
    if !acts then s
    else if s.param p pLegato = 1 then writeNote v P vel s
    else writeNote v P vel (beginGap v s)
  | .retrigger =>
    let s := setHeld v true false s
    if acts then writeNote v P vel s else s
  | .quenching => setHeld v true false (setPending v (some ⟨P, vel, false⟩) s)
  | .idle | .released | .waiting | .tuning | .disabled => s

/-- A MONO part serves its non-empty held list (R35, R36); `none` when it obtains no voice or tries none. -/
def monoServe (p : PartId) (arriving : Option (Note × Velocity)) (P : Note) (changed : Bool) (s : State) :
    Option State :=
  match (s.part p).active.head? with
  | some v => some (rePitch p arriving P s v)
  | none =>
    if arriving.isSome || changed then obtainVoice p P (velocityFor arriving P none) s else none

/-- A member taken from the free list for a start record (R39): a RELEASED voice quenches, another waits. -/
def joinRecord (p : PartId) (s : State) (v : VoiceId) : State :=
  freeToActive p v
    (if (s.voice v).state = .released then beginQuench p v none s else (s.modVoice v Voice.quiet).enter v .waiting)

/-- The part's unison start record made (R39). -/
def makeRecord (p : PartId) (members : List VoiceId) (waiting : Nat) (P : Note) (vel : Velocity) (s : State) : State :=
  s.modPart p fun x => { x with start := some ⟨members, waiting, P, vel⟩ }

/-- A UNISON part starts a stack for P (R38); `none` when it obtains no voice. -/
def startStack (p : PartId) (P : Note) (vel : Velocity) (s : State) : Option State :=
  let quenchers := (s.part p).active.filter fun v => (s.voice v).state = .quenching
  let chosen := (s.part p).free.take (s.param p pUnisonCount)
  if quenchers ≠ [] then some (makeRecord p quenchers quenchers.length P vel (numberFrom 0 quenchers s))
  else if chosen ≠ [] then
    let released := chosen.filter fun v => (s.voice v).state = .released
    let s := numberFrom 0 chosen s
    if s.vas.tailQuench = 1 && released ≠ [] then
      some (makeRecord p chosen released.length P vel (chosen.foldl (joinRecord p) s))
    else some (chosen.foldl (fun s v => takeNote p v P vel true s) s)
  else (yieldingVoice s p).map fun b => takeNote p b P vel true (numberFrom 0 [b] (yieldBackground s))

/-- A UNISON part serves its non-empty held list (R38, R41, R42). -/
def unisonServe (p : PartId) (arriving : Option (Note × Velocity)) (P : Note) (changed : Bool) (s : State) :
    Option State :=
  let members := stackMembers s p
  let vel := velocityFor arriving P (members.head?.map s.voice)
  match (s.part p).start with
  | some r =>
    if r.note ≠ P || restrikes arriving P (some r.note) then
      some (s.modPart p fun x => { x with start := some { r with note := P, velocity := vel } })
    else some s
  | none =>
    if members.any fun v => sounding (s.voice v) || (s.voice v).state = .waiting then
      some ((members.filter fun v => sounding (s.voice v)).foldl (rePitch p arriving P) s)
    else if arriving.isSome || changed then startStack p P vel s else none

/-- A MONO or UNISON part serves its held list after an event. -/
def serveHeld (p : PartId) (arriving : Option (Note × Velocity)) (P : Note) (changed : Bool) (s : State) :
    Option State :=
  if s.param p pVoiceMode = modeUnison then unisonServe p arriving P changed s else monoServe p arriving P changed s

/-- The voice's key is let go with the held list empty (R37). -/
def letGo (p : PartId) (s : State) (v : VoiceId) : State :=
  let x := s.voice v
  if sounding x then
    if (s.part p).pedal then setHeld v false true s else releaseVoice p v s
  else if x.state = .quenching then
    if (s.part p).pedal then setPending v (x.pendingNote.map fun n => { n with sustained := true }) s
    else setPending v none s
  else s

/-- A KEY_UP empties the held list of a MONO or UNISON part (R37, R40, R42). -/
def heldEmptied (p : PartId) (s : State) : State :=
  if (s.part p).start.isSome then (if (s.part p).pedal then s else cancelStart p s)
  else (stackMembers s p).foldl (letGo p) s

/-! ### The messages in one part -/

/-- A KEY_DOWN reaching a part (R20, R21, R24). -/
def keyDownPart (n : Note) (vel : Velocity) (s : State) (p : PartId) : State :=
  let s := s.modPart p fun x => { x with held := heldAfterDown x.held n }
  if s.param p pVoiceMode = modePoly then polyDown p n vel s
  else match priorityNote (s.param p pNotePriority) (s.part p).held with
    | none => dropKey p s
    | some P =>
      match serveHeld p (some (n, vel)) P true s with
      | some s => acceptKey p s
      | none => dropKey p s

/-- A KEY_UP reaching a part, with the PART_SILENT decision at its end (R20, R21, R49). -/
def keyUpPart (n : Note) (before : State) (p : PartId) : State :=
  let heldBefore := (before.part p).held
  let s := before.modPart p fun x => { x with held := x.held.filter (· ≠ n) }
  let rule := s.param p pNotePriority
  let s :=
    if s.param p pVoiceMode = modePoly then polyUp p n s
    else match priorityNote rule (s.part p).held with
      | none => if heldBefore ≠ [] then heldEmptied p s else s
      | some P => (serveHeld p none P (priorityNote rule heldBefore ≠ some P) s).getD s
  silentDecision before p s

/-- A sustained voice, or a pending note with the sustained mark, let go by a pedal up (R33). -/
def pedalLetGo (p : PartId) (s : State) (v : VoiceId) : State :=
  let x := s.voice v
  if sounding x && x.sustained then releaseVoice p v s
  else if x.state = .quenching && (x.pendingNote.map (·.sustained)).getD false then setPending v none s
  else s

/-- A pedal up received while the Pedal is down (R33). -/
def pedalUp (p : PartId) (s : State) : State :=
  let s := s.modPart p fun x => { x with pedal := false }
  if s.param p pVoiceMode = modePoly then (s.part p).active.foldl (pedalLetGo p) s
  else if (s.part p).held = [] then (stackMembers s p).foldl (pedalLetGo p) (cancelStart p s)
  else s

/-- A PEDAL reaching a part (R33). -/
def pedalPart (down : Bool) (s : State) (p : PartId) : State :=
  if (s.part p).pedal = down then s
  else if down then s.modPart p fun x => { x with pedal := true }
  else silentDecision s p (pedalUp p s)

/-! ### Routing (R8) -/

/-- The parts on a channel, in ascending order. -/
def onChannel (s : State) (channel : Byte) : List PartId :=
  allParts.filter fun p => (s.part p).channel.map (·.val) = some channel.toNat

/-- The parts a key message reaches. -/
def routed (s : State) (channel : Byte) (n : Note) : List PartId :=
  (onChannel s channel).filter fun p => (s.part p).lowKey ≤ n && n ≤ (s.part p).highKey

/-- KEY_UP as VAS carries it out (R8, R20). -/
def keyUpMessage (channel note : Byte) (s : State) : State :=
  match ident? 128 note.toNat with
  | none => s
  | some n => settlePass s ((routed s channel n).foldl (keyUpPart n) s)

/-- KEY_DOWN as VAS carries it out (R8, R20): velocity 0 is a KEY_UP. -/
def keyDownMessage (channel note velocity : Byte) (s : State) : State :=
  if velocity = 0 then keyUpMessage channel note s
  else match ident? 128 note.toNat with
    | none => s
    | some n => settlePass s ((routed s channel n).foldl (keyDownPart n (clampVelocity velocity)) s)

/-- BEND as VAS carries it out (R43). -/
def bendMessage (channel : Byte) (value : BitVec 16) (s : State) : State :=
  (onChannel s channel).foldl
    (fun s p => s.modPart p fun x => { x with bend := clampInt (-8192) 8191 value.toInt }) s

/-- PEDAL as VAS carries it out (R33). -/
def pedalMessage (channel value : Byte) (s : State) : State :=
  settlePass s ((onChannel s channel).foldl (pedalPart (value ≠ 0)) s)

/-- SILENCE on one part (R44, R45). -/
def silencePart (form : SilenceForm) (s : State) (p : PartId) : State := silentDecision s p (partSilence form p s)

/-- SILENCE as VAS carries it out (R45). -/
def silenceMessage (mask form : Byte) (s : State) : State :=
  match bit? form with
  | none => s
  | some quench =>
    settlePass s ((allParts.filter fun p => mask.getLsbD p.val).foldl
      (silencePart (if quench then .quench else .release)) s)

/-! ### Commands -/

/-- RELEASE_HOLD_EXPIRY: the RELEASED voice becomes IDLE in its place (R3). -/
def execReleaseHoldExpiry (v : VoiceId) (s : State) : Host.Outcome State Fault Refusal :=
  match (s.voice v).releaseHold with
  | none => .next s
  | some _ => .next (settlePass s (becomeIdle v s))

/-- The members of a start record take its note together (R39). -/
def fireRecord (p : PartId) (r : StartRecord) (s : State) : State :=
  let held := (s.part p).held ≠ []
  (r.members.foldl (fun s v => takeNote p v r.note r.velocity held s) s).modPart p fun x => { x with start := none }

/-- A QUENCHING member of the start record r enters WAITING; the last one starts the stack (R31, R39). -/
def memberWaits (p : PartId) (r : StartRecord) (v : VoiceId) (s : State) : State :=
  let s := (s.modVoice v Voice.quiet).enter v .waiting
  let r := { r with waiting := r.waiting - 1 }
  if r.waiting = 0 then fireRecord p r s else s.modPart p fun x => { x with start := some r }

/-- The quench of a voice of part p ends (R31). -/
def quenchEnds (p : PartId) (v : VoiceId) (s : State) : State :=
  match (s.voice v).pendingNote with
  | some n => takeNote p v n.note n.velocity (!n.sustained) s
  | none =>
    match (s.part p).start with
    | some r => if v ∈ r.members then memberWaits p r v s else (becomeIdle v (s.leaveActive p v)).joinFree p v
    | none => (becomeIdle v (s.leaveActive p v)).joinFree p v

/-- QUENCH_EXPIRY: the voice acts on what it holds (R31). -/
def execQuenchExpiry (v : VoiceId) (s : State) : Host.Outcome State Fault Refusal :=
  match (s.voice v).quench, (s.voice v).part with
  | some _, some p => .next (settlePass s (quenchEnds p v s))
  | some _, none | none, _ => .next s

/-- GAP_EXPIRY: the RETRIGGER voice enters GATED (R32). -/
def execGapExpiry (v : VoiceId) (s : State) : Host.Outcome State Fault Refusal :=
  match (s.voice v).gap with
  | none => .next s
  | some _ => .next ((s.modVoice v fun x => { x with gap := none }).enter v .gated)

end Sys2Proof.Machine
end

