-- ==== Sys2Proof/Machine/Pools.lean ====
section
/-!
DEFINITION. The Voice Assigner's requests (01_voices_and_parts 1.4 to 1.7): SET_ROUTE, SET_POOL, SET_VOICE_ENABLE and
the three queries.
-/

namespace Sys2Proof.Machine

/-! ### Routes (R9) -/

/-- A channel field: 0-15, or FFh for OFF. -/
def route? (b : Byte) : Option (Option MidiChannel) :=
  if b = 0xFF then some none else (ident? 16 b.toNat).map some

/-- An optional channel as sent: FFh for OFF. -/
def channelByte : Option MidiChannel → Byte
  | none => 0xFF
  | some c => byte c

/-- The route stored for two key fields: each clamped to 127, then swapped if low exceeds high. -/
def keyRange (low high : Byte) : Note × Note :=
  if clampNote high < clampNote low then (clampNote high, clampNote low) else (clampNote low, clampNote high)

/-- SET_ROUTE (R9). -/
def setRouteRequest (part channel low high : Byte) (s : State) : State :=
  match part? part, route? channel with
  | some p, some c =>
    let r := keyRange low high
    placeReply .ok [byte p, channelByte c, byte r.1, byte r.2]
      (s.modPart p fun x => { x with channel := c, lowKey := r.1, highKey := r.2 })
  | _, _ => refuse .badValue s

/-! ### The pool map (R10 to R12) -/

/-- An entry of SET_POOL: a part 0-3, or FFh for NONE. -/
def entry? (b : Byte) : Option (Option PartId) := if b = 0xFF then some none else (part? b).map some

/-- The sixteen entries as parts; `none` when one is neither 0-3 nor FFh. -/
def entries? (e : Vector Byte 16) : Option (List (Option PartId)) :=
  let l := e.toList.map entry?
  if l.all Option.isSome then some (l.map Option.join) else none

/-- The voice joins the free list of its new part. -/
def joinNew (q : Option PartId) (v : VoiceId) (s : State) : State :=
  match q with
  | none => s
  | some q => s.joinFree q v

/-- A voice moves from the pool of its Part to q (R11). -/
def moveVoice (q : Option PartId) (v : VoiceId) (s : State) : State :=
  let old := (s.voice v).part
  let s := (s.leaveLists v).modVoice v fun x => { x with part := q, keyHeld := false, sustained := false }
  match (s.voice v).state with
  | .idle => joinNew q v s
  | .released => joinNew q v (if q.isNone then becomeIdle v s else s)
  | .gated | .retrigger | .quenching | .waiting =>
    match q, old with
    | some q, some p => (becomeReleased p v s).joinFree q v
    | none, _ | some _, none => joinNew q v (becomeIdle v s)
  | .tuning | .disabled => s

/-- The voices whose entry differs from their Part, each with its entry, in ascending order. -/
def moves (s : State) (entries : List (Option PartId)) : List (VoiceId × Option PartId) :=
  (allVoices.zip entries).filter fun m => (s.voice m.1).part ≠ m.2

/-- The record of part p after active voices of it have moved (R12): a start record with a moved member is cancelled, a
running UNISON stack is renumbered (R42). -/
def partAfterMoves (before : State) (moved : List VoiceId) (s : State) (p : PartId) : State :=
  let lost := moved.filter fun v => (before.voice v).part = some p && isActive (before.voice v).state
  if lost = [] then s
  else match (s.part p).start with
    | some r => if lost.any (· ∈ r.members) then cancelStart p s else s
    | none => if s.param p pVoiceMode = modeUnison then numberFrom 0 (stackMembers s p) s else s

/-- An accepted SET_POOL (R11, R12), with the PART_SILENT decisions of R49. -/
def changePools (entries : List (Option PartId)) (before : State) : State :=
  let m := moves before entries
  let s := m.foldl (fun s x => moveVoice x.2 x.1 s) before
  silentDecisions before (allParts.foldl (partAfterMoves before (m.map (·.1))) s)

/-- SET_POOL (R10). -/
def setPoolRequest (e : Vector Byte 16) (s : State) : State :=
  match entries? e with
  | none => refuse .badValue s
  | some entries =>
    if (moves s entries).any fun m => (s.voice m.1).state = .tuning then refuse .busy s
    else
      let t := settlePass s (changePools entries s)
      placeReply .ok (allVoices.map fun v => partByte (t.voice v).part) t

/-! ### Enabling (R14) -/

/-- SET_VOICE_ENABLE (R14). -/
def setVoiceEnableRequest (voice enable : Byte) (s : State) : State :=
  match voice? voice, bit? enable with
  | some v, some on =>
    if (s.voice v).state = .tuning then refuse .busy s
    else if on then
      placeReply .ok [] (if (s.voice v).state = .disabled then (becomeIdle v s).joinOwnFree v else s)
    else placeReply .ok [] (settlePass s (disableVoice v s))
  | _, _ => refuse .badValue s

/-! ### Queries (R15 to R17) -/

/-- The fields of a GET_VOICE reply (10.3.1). -/
def voiceFields (x : Voice) : List Byte :=
  let note := x.sound.map (·.1)
  let velocity := x.sound.map (·.2)
  [x.state.code, partByte x.part,
    byte (maskOf [x.sound.isSome, x.keyHeld, x.sustained, x.pendingNote.isSome,
      (x.pendingNote.map (·.sustained)).getD false, x.lastPlayed.isSome]),
    byte (maskOf [x.releaseHold.isSome, x.quench.isSome, x.gap.isSome]),
    byte (note.getD 0), byte (velocity.getD 0),
    byte ((x.pendingNote.map (·.note)).getD 0), byte ((x.pendingNote.map (·.velocity)).getD 0),
    byte x.unisonIndex, byte (x.lastPlayed.getD 0)]

/-- GET_VOICE (R15). -/
def getVoiceRequest (voice : Byte) (s : State) : State :=
  match voice? voice with
  | none => refuse .badValue s
  | some v => placeReply .ok (voiceFields (s.voice v)) s

/-- The unison start record as GET_PART reports it (10.3.1). -/
def startFields : Option StartRecord → List Byte
  | none => [0, 0, 0, 0, 0]
  | some r => [1, byte r.waiting, byte r.note, byte r.velocity, byte r.members.length]

/-- The fields of a GET_PART reply (10.3.1). -/
def partFields (s : State) (p : PartId) : List Byte :=
  let x := s.part p
  [channelByte x.channel, byte x.lowKey, byte x.highKey] ++
    word (maskOf (allVoices.map fun v => (s.voice v).part = some p)) ++
    [byte x.free.length, byte x.active.length, byte x.held.length, flagByte x.pedal] ++
    signedWord x.bend ++ startFields x.start

/-- GET_PART (R16). -/
def getPartRequest (part : Byte) (s : State) : State :=
  match part? part with
  | none => refuse .badValue s
  | some p => placeReply .ok (partFields s p) s

/-- A list as GET_LISTS reports it: its length, then its entries. -/
def listFields {n : Nat} (l : List (Fin n)) : List Byte := byte l.length :: l.map fun x => byte x.val

/-- GET_LISTS (R17). -/
def getListsRequest (part list : Byte) (s : State) : State :=
  match part? part, ident? 3 list.toNat with
  | some p, some 0 => placeReply .ok (listFields (s.part p).free) s
  | some p, some 1 => placeReply .ok (listFields (s.part p).active) s
  | some p, some 2 => placeReply .ok (listFields (s.part p).held) s
  | _, _ => refuse .badValue s

end Sys2Proof.Machine
end

