-- ==== Sys2Proof/Config.lean ====
section
/-!
DEFINITION. What an implementation of the JSC-1632 fixes and the spec leaves open: the free value of the model.
-/

namespace Sys2Proof.Config

/-- The bytes a page holds after a loss of power, or an assertion of RESETn, has interrupted its write or erase
before the end of its programming (R166): a free value, one page for each draw. Nothing constrains it but what
`Machine.interruptedPage` adds, that the page is EMPTY or CORRUPT (log 9). -/
opaque interruptedByte : (draw : Nat) → (offset : Nat) → BitVec 8

end Sys2Proof.Config
end

