-- ==== Sys2Proof/Machine/Store.lean ====
section
/-!
DEFINITION. The nonvolatile page store (R142 to R144, R208): one byte, one page, the page formats, and how a page is
judged. Byte address: 64 x page + offset.
-/

namespace Sys2Proof.Machine

/-- The bytes of the store: 529 pages of 64 (R142). -/
def storeSize : Nat := 529 * 64

/-! ### Page formats (R208) -/

/-- A page whose bytes 0-61 are `body` and whose bytes 62-63 are their CRC-16 (R144). -/
def sealPage (body : List Byte) : Page :=
  let b := List.ofFn fun i : Fin 62 => body.getD i 0
  let c := crc16 b
  Vector.ofFn fun i =>
    if i.val < 62 then b.getD i 0 else if i.val = 62 then highByte c else lowByte c

/-- An erased page (R208). -/
def erasedPage : Page := Vector.replicate 64 0xFF

/-- A slot page holding a patch. -/
def patchPage (category : Byte) (name : Vector Byte 12) (params : Vector Nat 24) : Page :=
  sealPage (0x5A#8 :: category :: (name.toList ++ params.toList.flatMap word))

/-- A tuning page (R164, R208). -/
def tuningPage (v : VoiceId) (a b : Vector Int 12) (disabled : Bool) : Page :=
  sealPage (0x6C#8 :: byte v :: (a.toList.flatMap signedWord ++ b.toList.flatMap signedWord ++ [flagByte disabled]))

/-- A protection page (R162, R208). -/
def protectionPage (level0 level1 : Fin 3) : Page := sealPage [0x50, byte level0, byte level1]

/-! ### Page numbers -/

/-- Slot s is page s of the slot area (R142). -/
def slotPage (s : SlotId) : PageNo := ⟨s.val, by omega⟩
/-- Tuning page v of the system area (R142). -/
def tuningPageNo (v : VoiceId) : PageNo := ⟨512 + v.val, by omega⟩
/-- Page 16 of the system area (R142). -/
def protectionPageNo : PageNo := 528

/-- The bank of a slot (R142). -/
def bankOf (s : SlotId) : BankId := ⟨s.val / 256, by omega⟩

/-! ### Bytes -/

/-- The page as the part is shipped (R142): bank 0 erased, bank 1 factory patches, the factory tune with no voice
disabled, levels 0 and 1. The contents of the factory patches and the factory corrections are chosen (log 8). -/
def shippedPage (p : PageNo) : Page :=
  if p.val < 256 then erasedPage
  else if p.val < 512 then patchPage 0 (Vector.replicate 12 0x20) paramDefaults
  else if h : p.val - 512 < 16 then
    tuningPage ⟨p.val - 512, h⟩ (Vector.replicate 12 0) (Vector.replicate 12 0) false
  else protectionPage 0 1

/-- What a byte that nothing has written reads as: the part as shipped. -/
def unlisted (a : Nat) : Byte :=
  if h : a / 64 < 529 then (shippedPage ⟨a / 64, h⟩)[a % 64]'(Nat.mod_lt a (by decide)) else 0xFF

/-- One byte of the store. -/
def Memory.read : Memory → Nat → Byte
  | [], a => unlisted a
  | (k, b) :: m, a => if k = a then b else Memory.read m a

/-- The list without an entry for `a`. -/
def Memory.drop : Memory → Nat → Memory
  | [], _ => []
  | (k, b) :: m, a => if k = a then m else (k, b) :: Memory.drop m a

/-- The list with the entry (a, b), addresses rising. -/
def Memory.put : Memory → Nat → Byte → Memory
  | [], a, b => [(a, b)]
  | (k, c) :: m, a, b =>
    if a < k then (a, b) :: (k, c) :: m
    else if a = k then (a, b) :: m
    else (k, c) :: Memory.put m a b

/-- One byte written: no entry is kept for a byte that reads as it would unlisted. -/
def Memory.write (m : Memory) (a : Nat) (b : Byte) : Memory :=
  if b = unlisted a then m.drop a else m.put a b

/-- The canonical form: addresses strictly rising, inside the store, no entry equal to the unlisted byte. -/
abbrev Memory.wf (m : Memory) : Prop :=
  m.Pairwise (fun x y => x.1 < y.1) ∧ ∀ c ∈ m, c.1 < storeSize ∧ c.2 ≠ unlisted c.1

/-! ### Pages -/

/-- The address of byte i of a page. -/
def pageAddr (p : PageNo) (i : Nat) : Nat := 64 * p.val + i

/-- A page read (R142). -/
def Memory.page (m : Memory) (p : PageNo) : Page := Vector.ofFn fun i => m.read (pageAddr p i)

/-- A page programmed or erased: its 64 bytes replaced. -/
def Memory.setPage (m : Memory) (p : PageNo) (page : Page) : Memory :=
  (List.finRange 64).foldl (fun m i => m.write (pageAddr p i.val) page[i]) m

/-- Bytes 0-61 of a page. -/
def pageBody (p : Page) : List Byte := p.toList.take 62

/-- Bytes 62-63 hold the CRC-16 of bytes 0-61 (R144). -/
def checkGood (p : Page) : Bool := joinBytes p[62] p[63] = crc16 (pageBody p)

/-- The status of a slot page (R143). -/
inductive SlotStatus where
  | empty | valid | corrupt
  deriving DecidableEq, Repr

/-- The judgement of R143. -/
def slotStatus (p : Page) : SlotStatus :=
  if p[0] = 0xFF then .empty
  else if p[0] = 0x5A && checkGood p then .valid
  else .corrupt

/-- The code of a slot status (R207). -/
def SlotStatus.code : SlotStatus → Byte
  | .empty => 0 | .valid => 1 | .corrupt => 2

/-- A tuning page is good (R211). -/
def tuningGood (p : Page) : Bool := p[0] = 0x6C && checkGood p

/-- The protection page is good (R212). -/
def protectionGood (p : Page) : Bool := p[0] = 0x50 && checkGood p

/-- Parameter i of a slot page (R208). -/
def pageParam (p : Page) (i : ParamId) : Nat := (joinBytes p[14 + 2 * i.val] p[15 + 2 * i.val]).toNat

/-- A correction stored at bytes `at`, `at` + 1, clamped into -4096..4095 (R208, R211). -/
def correction (p : Page) (k : Fin 63) : Int :=
  clampInt (-4096) 4095 (joinBytes p[k.val] p[k.val + 1]).toInt

/-- The corrections of oscillator A of a tuning page (R208). -/
def tableA (p : Page) : Vector Int 12 := Vector.ofFn fun b => correction p ⟨2 + 2 * b.val, by omega⟩

/-- The corrections of oscillator B of a tuning page (R208). -/
def tableB (p : Page) : Vector Int 12 := Vector.ofFn fun b => correction p ⟨26 + 2 * b.val, by omega⟩

/-- A level byte of the protection page; above 2 it is taken as 2 (R212). -/
def levelOf (b : Byte) : Fin 3 := ⟨min b.toNat 2, by omega⟩

/-- What a page holds after its write or erase was cut before its programming ended: bytes the spec leaves open, but
no page that its own format judges good (R166, log 9). `good` is that format's judgement. -/
def interruptedPage (good : Page → Bool) (draw : Nat) : Page :=
  let p : Page := Vector.ofFn fun i => Config.interruptedByte draw i.val
  if good p then p.set 0 0x00 else p

end Sys2Proof.Machine
end

