-- ==== Sys2Proof/Machine/Params.lean ====
section
/-!
DEFINITION. The Parameter and Binding Unit (06_part_parameters_and_control_pickup): writes to the live buffers,
bindings, scaling, pickup, motion events and control reports, and the unit's requests.
-/

namespace Sys2Proof.Machine

/-! ### Writes (R123, R126, R127) -/

/-- A value clamped to its parameter's range (R123). -/
def clampParam (i : ParamId) (value : Nat) : Nat := clampNat paramTable[i].min paramTable[i].max value

/-- The write of R123 without the assignment change it may hand over: a different value is stored, counted and marked. -/
def storeParam (p : PartId) (i : ParamId) (value : Nat) (s : State) : State :=
  let new := clampParam i value
  if new = s.param p i then s
  else s.modPbu fun b =>
    { b with live := upd b.live p fun l => upd l i fun _ => new,
             edits := upd b.edits p fun e => { e with edited := true, count := e.count + 1 } }

/-- VOICE_MODE or UNISON_COUNT of part p differs between two states (R126). -/
def assignmentDiffers (a b : State) (p : PartId) : Bool :=
  a.param p pVoiceMode ≠ b.param p pVoiceMode || a.param p pUnisonCount ≠ b.param p pUnisonCount

/-- The assignment change of a write that began in `before`, when there is one (R126). -/
def handAssignment (p : PartId) (before s : State) : State :=
  if assignmentDiffers before s p then assignmentChange p s else s

/-- The write of R123 with its assignment change. -/
def writeParam (p : PartId) (i : ParamId) (value : Nat) (s : State) : State :=
  handAssignment p s (storeParam p i value s)

/-! ### Bindings, scaling and pickup (R128, R132, R133) -/

/-- The part a binding writes now: its own, or the part FOCUS names. -/
def boundPart (s : State) (b : Binding) : Option PartId :=
  match b.target with
  | .unbound => none
  | .part p => some p
  | .focus => some s.pbu.focus

/-- The number of values of a parameter's range. -/
def rangeSize (i : ParamId) : Nat := paramTable[i].max - paramTable[i].min + 1

/-- The scaled value of a filtered value (R132). -/
def scaled (i : ParamId) (v : Nat) : Nat := v * rangeSize i / 1024 + paramTable[i].min

/-- The pickup window of a parameter (R132). -/
def pickupWindow (i : ParamId) : Nat := rangeSize i * 8 / 1024

/-- The pickup state that scaled value x warrants against q (R133). -/
def pickupFor (x q w : Nat) : Pickup := if q + w < x then .waitAbove else if x + w < q then .waitBelow else .locked

/-- The state a pickup reset gives a control (R133). -/
def resetPickupState (s : State) (c : ControlId) : Pickup :=
  let b := s.pbu.bindings[c]
  match boundPart s b, b.mode, s.pns.filters[c].filtered with
  | some p, .pickup, some v => pickupFor (scaled b.index v) (s.param p b.index) (pickupWindow b.index)
  | some _, .pickup, none | some _, .jump, _ | none, _, _ => .locked

/-- A control's pickup state replaced. -/
def setPickup (c : ControlId) (k : Pickup) (s : State) : State :=
  s.modPbu fun b => { b with pickups := upd b.pickups c fun _ => k }

/-- The pickup reset of one control (R133). -/
def resetPickup (s : State) (c : ControlId) : State := setPickup c (resetPickupState s c) s

/-- The pickup reset of every control whose binding satisfies a condition, in ascending order (R134). -/
def resetPickups (which : Binding → Bool) (s : State) : State :=
  (allControls.filter fun c => which s.pbu.bindings[c]).foldl resetPickup s

/-- FOCUS written, with its pickup resets (R131). -/
def writeFocus (n : Nat) (s : State) : State :=
  resetPickups (fun b => b.target = .focus) (s.modPbu fun b => { b with focus := ⟨min n 3, by omega⟩ })

/-- A valid page applied to part p (R127). -/
def applyPatch (p : PartId) (slot : SlotId) (page : Page) (before : State) : State :=
  let s := (List.finRange 24).foldl (fun s i => storeParam p i (pageParam page i) s) before
  let s := handAssignment p before s
  let s := s.modPbu fun b =>
    { b with edits := upd b.edits p fun e => { e with edited := false, slot := some slot } }
  resetPickups (fun b => boundPart s b = some p) s

/-! ### Motion events and reports (R136, R137, R139) -/

/-- An entry placed in the control report set: in place of the control's entry, or as the newest. -/
def placeReport (r : Report) (reports : List Report) : List Report :=
  if reports.any fun x => x.control = r.control then
    reports.map fun x => if x.control = r.control then r else x
  else reports ++ [r]

/-- The control report of a motion event (R139). -/
def reportMotion (r : Report) (s : State) : State :=
  if s.pbu.bindings[r.control].report && !s.stu.noticeMask.getLsbD 0 then
    s.modLnk fun l => { l with reports := placeReport r l.reports }
  else s

/-- The motion event writes or locks at pickup state k (R137). -/
def motionActs (k : Pickup) (x q w : Nat) : Bool :=
  match k with
  | .locked => true
  | .waitAbove => x ≤ q + w
  | .waitBelow => q ≤ x + w

/-- A motion event of control c with filtered value v (R136, R137). -/
def motionEvent (c : ControlId) (v : Nat) (s : State) : State :=
  let b := s.pbu.bindings[c]
  match boundPart s b with
  | none => reportMotion ⟨c, v, .locked, false⟩ s
  | some p =>
    let x := scaled b.index v
    let k := s.pbu.pickups[c]
    if motionActs k x (s.param p b.index) (pickupWindow b.index) then
      reportMotion ⟨c, v, .locked, true⟩ (writeParam p b.index x (setPickup c .locked s))
    else reportMotion ⟨c, v, k, false⟩ s

/-! ### Requests -/

/-- SET_PARAM (R124, R134). -/
def setParamRequest (part index : Byte) (value : BitVec 16) (s : State) : State :=
  match part? part, param? index with
  | some p, some i =>
    let s := writeParam p i value.toNat s
    let s := resetPickups (fun b => boundPart s b = some p && b.index = i) s
    placeReply .ok ([byte p, byte i] ++ word (s.param p i)) s
  | _, _ => refuse .badValue s

/-- GET_PARAM (R125). -/
def getParamRequest (part index : Byte) (s : State) : State :=
  match part? part, param? index with
  | some p, some i =>
    let e := s.pbu.edits[p]
    placeReply .ok
      ([byte p, byte i] ++ word (s.param p i) ++ [flagByte e.edited] ++ bytes16 e.count ++
        word (match e.slot with | none => 0xFFFF | some t => t.val)) s
  | _, _ => refuse .badValue s

/-- The target that BIND_CONTROL's target and part fields name (R129). -/
def target? (target part : Byte) : Option Target :=
  match target.toNat with
  | 0 => some .unbound
  | 1 => (part? part).map .part
  | 2 => some .focus
  | _ => none

/-- The binding that BIND_CONTROL's fields name; `none` when R129 refuses one of them. -/
def binding? (target part index mode deadband report : Byte) : Option Binding :=
  match target? target part, param? index, bit? mode, bit? report with
  | some t, some i, some m, some r => some ⟨t, i, if m then .pickup else .jump, min deadband.toNat 15, r⟩
  | _, _, _, _ => none

/-- A binding as BIND_CONTROL's reply carries it: target, part, index, mode, deadband, report. -/
def bindingFields (b : Binding) : List Byte :=
  [b.target.codes.1, b.target.codes.2, byte b.index, b.mode.code, byte b.deadband, flagByte b.report]

/-- BIND_CONTROL (R129). -/
def bindControlRequest (control target part index mode deadband report : Byte) (s : State) : State :=
  match control? control, binding? target part index mode deadband report with
  | some c, some b =>
    let s := resetPickup (s.modPbu fun x => { x with bindings := upd x.bindings c fun _ => b }) c
    placeReply .ok (byte c :: (bindingFields b ++ [s.pbu.pickups[c].code])) s
  | _, _ => refuse .badValue s

/-- The scaled value GET_CONTROL reports (R130). -/
def scaledNow (s : State) (c : ControlId) : Option Nat :=
  let b := s.pbu.bindings[c]
  match boundPart s b, s.pns.filters[c].filtered with
  | some _, some v => some (scaled b.index v)
  | _, _ => none

/-- The fields of a GET_CONTROL reply (10.3.1). -/
def controlFields (s : State) (c : ControlId) : List Byte :=
  let x := s.pns.filters[c]
  let scaledValue := scaledNow s c
  bindingFields s.pbu.bindings[c] ++
    [s.pbu.pickups[c].code, byte (maskOf [x.filtered.isSome, scaledValue.isSome])] ++
    word (x.filtered.getD 0) ++ word (x.motion.getD 0) ++ word (scaledValue.getD 0)

/-- GET_CONTROL (R130). -/
def getControlRequest (control : Byte) (s : State) : State :=
  match control? control with
  | none => refuse .badValue s
  | some c => placeReply .ok (controlFields s c) s

end Sys2Proof.Machine
end

