-- ==== Sys2Proof/Machine/Panel.lean ====
section
/-!
DEFINITION. The Panel Scanner (05_panel_scanning): the scan pass and its conversions, the reference monitor, filtering
and motion, the switch debouncers and the readback monitor.
-/

namespace Sys2Proof.Machine

/-! ### The pass (R102 to R104) -/

/-- A scan pass begins at SWITCHES and the scan timer starts with SCAN_PERIOD (R102). -/
def beginScanPass (s : State) : State :=
  s.modPns fun x => { x with scanTimer := some x.scanPeriod, position := .switches, visited := false }

/-- The bank and channel that the multiplexers select for the conversion of a step (R104). -/
def muxSelect : PassPosition → Option (Nat × Nat)
  | .control c => some (c.val / 8, c.val % 8)
  | .refLow => some (12, 0)
  | .refHigh => some (12, 1)
  | .readback => some (12, 2)
  | .idle | .switches | .judge => none

/-- The pass is at a step. -/
def toStep (x : PassPosition) (s : State) : State := s.modPns fun p => { p with position := x }

/-! ### Switches (R113, R114) -/

/-- A sample acts on a debouncer; `true` beside it when SWITCH_CHANGED is queued (R114). -/
def debounce (x : Debouncer) (sample : Bool) : Debouncer × Bool :=
  match x.debounced with
  | none => ({ x with debounced := some sample }, false)
  | some d =>
    if sample = d then ({ x with count := 0 }, false)
    else if x.count < 2 then ({ x with count := x.count + 1 }, false)
    else (⟨some sample, 0⟩, true)

/-- One switch sampled. -/
def sampleSwitch (samples : BitVec 32) (s : State) (w : SwitchId) : State :=
  let pressed := samples.getLsbD w.val
  let r := debounce s.pns.switches[w] pressed
  let s := s.modPns fun x => { x with switches := upd x.switches w fun _ => r.1 }
  if r.2 then offerNotice (.switchChanged w pressed) s else s

/-! ### The reference monitor (R106, R107, R118) -/

/-- A reference's record of this pass's conversion; a pending test takes the reading as 0 and is consumed (R118). -/
def convertReference (old : Reference) (test : Bool) (raw : BitVec 12) : Reference :=
  { old with reading := if test then 0 else raw.toNat, tested := test }

/-- A pending test consumed. -/
def clearTest (t : Fin 3) (s : State) : State := s.modStu fun u => { u with tests := upd u.tests t fun _ => false }

/-- The reading is in window (R106). -/
def inWindow (expected reading : Nat) : Bool := expected - 64 ≤ reading && reading ≤ expected + 64

/-- The reference counts as in window for holding (R107, R118). -/
def holdsNothing (expected : Nat) (r : Reference) : Bool := r.tested || inWindow expected r.reading

/-- The count after the judgment of a reference (R106, R118). -/
def judgedCount (expected : Nat) (r : Reference) : Nat :=
  if r.tested then r.count else if inWindow expected r.reading then 0 else min 2 (r.count + 1)

/-- The flag asked for by the judgment of a reference that stood at r (R106, R118). -/
def judgeFlag (f : FlagId) (expected : Nat) (r : Reference) (s : State) : State :=
  if r.tested then forceFault f s
  else if !inWindow expected r.reading && 1 ≤ r.count then setFault f s
  else s

/-- The expected readings of R106. -/
def expectLow : Nat := 1024
def expectHigh : Nat := 3072

/-- Both references judged, REF_LOW first (R106). -/
def judgeReferences (s : State) : State :=
  let lo := s.pns.refLow
  let hi := s.pns.refHigh
  judgeFlag fRefHigh expectHigh hi (judgeFlag fRefLow expectLow lo (s.modPns fun x =>
    { x with refLow := { lo with count := judgedCount expectLow lo },
             refHigh := { hi with count := judgedCount expectHigh hi } }))

/-- The pass is applied (R107). -/
def passApplied (x : Pns) : Bool := holdsNothing expectLow x.refLow && holdsNothing expectHigh x.refHigh

/-! ### Filtering and motion (R109 to R112) -/

/-- The filter record of an unseeded control after its seeding from r (R109). -/
def seedFilter (r : Nat) : Filter := ⟨none, true, 4 * r, some (r / 4), some (r / 4)⟩

/-- The accumulator after a raw value r (R110). -/
def accumulate (a r : Nat) : Nat := a - a / 4 + r

/-- The distance of two filtered values. -/
def distance (a b : Nat) : Nat := (a - b) + (b - a)

/-- A motion event arises (R111). -/
def moves? (v m deadband : Nat) : Bool := deadband < distance v m || ((v = 0 || v = 1023) && v ≠ m)

/-- A control evaluated at an applied JUDGE (R109 to R112); R135 hands a seeding to the Parameter and Binding Unit. -/
def evaluateControl (s : State) (c : ControlId) : State :=
  let x := s.pns.filters[c]
  match x.provisional with
  | none => s
  | some r =>
    if !x.seeded then resetPickup (s.modFilter c fun _ => seedFilter r) c
    else
      let a := accumulate x.acc r
      let v := a / 16
      let s := s.modFilter c fun x => { x with provisional := none, acc := a, filtered := some v }
      if moves? v (x.motion.getD 0) s.pbu.bindings[c].deadband then
        motionEvent c v (s.modFilter c fun x => { x with motion := some v })
      else s

/-- The provisional values of a held pass discarded (R107). -/
def discardProvisional (s : State) : State :=
  s.modPns fun x => { x with filters := Vector.ofFn fun c => { x.filters[c] with provisional := none } }

/-- The READBACK step begins: a pending test of READBACK is consumed (R115, R119). -/
def beginReadback (s : State) : State :=
  clearTest 2 (s.modPns fun x =>
    { x with position := .readback, visited := false, readbackTested := s.stu.tests[(2 : Fin 3)] })

/-- The JUDGE step, which takes no time (R103, R107), with no moment of the link in it. -/
def judge (s : State) : State :=
  let applied := passApplied s.pns
  let s := judgeReferences s
  if applied then beginReadback (allControls.foldl evaluateControl s)
  else toStep .idle (discardProvisional s)

/-! ### The readback monitor (R115 to R119) -/

/-- The expected reading of a latched code (R115). -/
def expectedReading (code : Nat) : Int := (code / 16 : Nat)

/-- The shifted expectation of a tested check (R119). -/
def shiftedReading (code : Nat) : Int :=
  if code < 32768 then expectedReading code + 128 else expectedReading code - 128

/-- The reading lies within 48 of an expectation. -/
def matches48 (e : Int) (raw : Nat) : Bool := e - 48 ≤ raw && (raw : Int) ≤ e + 48

/-- The pointer advances, 135 going to 0, and Retry becomes false (R116). -/
def advancePointer (s : State) : State :=
  s.modPns fun x => { x with pointer := ⟨(x.pointer.val + 1) % 136, by omega⟩, retry := false }

/-- The disable of the voice of a broken output, with VOICE_DISABLED when it was in service (R117). -/
def readbackDisable (v : VoiceId) (s : State) : State :=
  if (s.voice v).state = .disabled then disableVoice v s else setFault fVoiceDisabled (disableVoice v s)

/-- The second mismatch of output j (R116). -/
def brokenOutput (j : OutputId) (s : State) : State :=
  let s := setFault fReadback s
  advancePointer (if h : j.val < 128 then readbackDisable ⟨j.val / 8, by omega⟩ s else s)

/-- The check of the output at the pointer (R116, R119). -/
def checkReadback (raw : Nat) (s : State) : State :=
  let j := s.pns.pointer
  let code := s.cvo.latched[j]
  if s.pns.readbackTested then
    if matches48 (shiftedReading code) raw then s else forceFault fReadback s
  else if matches48 (expectedReading code) raw then advancePointer s
  else if s.pns.retry then brokenOutput j s
  else (countUp cReadbackGlitches s).modPns fun x => { x with retry := true }

/-! ### Commands -/

/-- SCAN_TIMER_EXPIRY: a new pass begins (R102). -/
def execScanTimerExpiry (s : State) : Host.Outcome State Fault Refusal :=
  match s.pns.scanTimer with
  | none => .next s
  | some _ => .next (beginScanPass s)

/-- SWITCH_SAMPLING: the SWITCHES step; bit w of `samples` is 1 for a pressed switch w (R113, R114). -/
def execSwitchSampling (samples : BitVec 32) (s : State) : Host.Outcome State Fault Refusal :=
  match s.pns.position with
  | .switches => .next (arbitrate (toStep (.control 0) ((List.finRange 32).foldl (sampleSwitch samples) s)))
  | .idle | .control _ | .refLow | .refHigh | .judge | .readback => .next s

/-- The step after CONTROL c. -/
def nextControl (c : ControlId) : PassPosition := if h : c.val + 1 < 96 then .control ⟨c.val + 1, h⟩ else .refLow

/-- CONTROL_CONVERSION: the raw value waits in the control's provisional slot (R103, R104). -/
def execControlConversion (raw : BitVec 12) (s : State) : Host.Outcome State Fault Refusal :=
  match s.pns.position with
  | .control c =>
    .next (toStep (nextControl c) (s.modFilter c fun x => { x with provisional := some raw.toNat }))
  | .idle | .switches | .refLow | .refHigh | .judge | .readback => .next s

/-- READBACK_CONVERSION_DONE: the check that follows the visit of the pointer's output, and the end of the pass (R115 to
R119). -/
def execReadbackConversionDone (raw : BitVec 12) (s : State) : Host.Outcome State Fault Refusal :=
  if s.pns.position = .readback && s.pns.visited then
    .next (arbitrate (settlePass s ((checkReadback raw.toNat s).modPns fun x =>
      { x with position := .idle, visited := false, readbackTested := false })))
  else .next s

end Sys2Proof.Machine
end

