-- ==== Sys2Proof/Machine/Reset.lean ====
section
/-!
DEFINITION. The reset of every block (R210, R215): each block takes its After reset values; no page of the store
changes (R142, R167).
-/

namespace Sys2Proof.Machine

/-- Every block at its After reset values, in the phase given. The page store is kept, and so are the model's own
fields. -/
def resetBlocks (phase : Phase) (s : State) : State :=
  { s with phase := phase, loadPage := 0, lnk := Lnk.reset, vas := Vas.reset, cvo := Cvo.reset, tun := Tun.reset,
           pns := Pns.reset, pbu := Pbu.reset, pmc := Pmc.reset s.pmc.memory, stu := Stu.reset }

/-- The reset of an accepted RESTART takes effect (R215). -/
def restartReset (s : State) : State := resetBlocks .loading s

/-- RESTART is accepted at the end of its reply (R165, R179): the reset takes effect at once, or waits for the write in
flight. -/
def acceptRestart (s : State) : State :=
  if s.pmc.engine.operation.isSome then
    s.modPmc fun x => { x with engine := { x.engine with resetWaiting := true } }
  else restartReset s

end Sys2Proof.Machine
end

