-- ==== Sys2Proof/Machine/Patch.lean ====
section
/-!
DEFINITION. The Patch Memory Controller (07_patch_memory): recalls, the write engine and its operations, upload, export
and slot information, and the ends of page reads, writes and erases.
-/

namespace Sys2Proof.Machine

/-- A part of the Patch Memory Controller's record replaced. -/
def modEngine (f : Engine → Engine) (s : State) : State := s.modPmc fun x => { x with engine := f x.engine }
def setStaging (t : Staging) (s : State) : State := s.modPmc fun x => { x with staging := t }
def setPageRead (r : Option PageRead) (s : State) : State := s.modPmc fun x => { x with pageRead := r }

/-- A page of the store programmed or erased. -/
def writeStore (p : PageNo) (page : Page) (s : State) : State :=
  s.modPmc fun x => { x with memory := x.memory.setPage p page }

/-- The slot page as it stands. -/
def slotContents (s : State) (t : SlotId) : Page := s.pmc.memory.page (slotPage t)

/-- The bank of a slot is blocked (R145). -/
def slotBlocked (s : State) (t : SlotId) : Bool := s.pmc.banks[bankOf t].blocked

/-- The protection level of a slot's bank (R146). -/
def slotLevel (s : State) (t : SlotId) : Nat := s.pmc.banks[bankOf t].level

/-- The write engine is busy (R147). -/
def engineBusy (s : State) : Bool := s.pmc.engine.operation.isSome

/-! ### Recall (R150 to R154) -/

/-- A record the part holds is superseded (R151). -/
def supersede (p : PartId) (s : State) : State :=
  match s.pmc.recalls[p] with
  | none => s
  | some r => offerNotice (.recallDone p r.slot .superseded r.tag) (s.setRecall p none)

/-- The phase a new recall of a slot takes (R150). -/
def recallPhase (s : State) (t : SlotId) : RecallPhase := if slotBlocked s t then .waiting else .reading

/-- RECALL (R150). -/
def recallRequest (tag part : Byte) (slot : BitVec 16) (s : State) : State :=
  match part? part, slot? slot with
  | some p, some t =>
    let s := supersede p s
    placeReply .ok [] (s.setRecall p (some ⟨t, tag, recallPhase s t⟩))
  | _, _ => refuse .badValue s

/-- The recall of part p ends by the page read (R153). -/
def endRecall (p : PartId) (r : Recall) (before : State) : State :=
  let page := slotContents before r.slot
  let s := before.setRecall p none
  match slotStatus page with
  | .empty => offerNotice (.recallDone p r.slot .empty r.tag) s
  | .corrupt => offerNotice (.recallDone p r.slot .corrupt r.tag) (setFault fRecallCrc s)
  | .valid => offerNotice (.recallDone p r.slot .ok r.tag) (countUp cRecalls (applyPatch p r.slot page s))

/-- A recall of a slot of bank b in phase `old` takes phase `new`. -/
def shiftRecall (b : BankId) (old new : RecallPhase) (r : Recall) : Recall :=
  if bankOf r.slot = b && r.phase = old then { r with phase := new } else r

/-- The recalls of a bank in one phase take another, for each part. -/
def shiftRecalls (b : BankId) (old new : RecallPhase) (s : State) : State :=
  s.modPmc fun x => { x with recalls := Vector.ofFn fun p => x.recalls[p].map (shiftRecall b old new) }

/-! ### The write engine (R147) -/

/-- The engine takes an operation. -/
def beginWrite (op : WriteOp) (target : WriteTarget) (tag : Byte) (image : List Page)
    (snapshot : Option (PartId × BitVec 16)) (s : State) : State :=
  modEngine (fun _ =>
    { operation := some op, target := target, tag := tag, image := image, snapshot := snapshot, progress := 0,
      verifyFail := false, resetWaiting := false }) s

/-- A bank becomes blocked, and its READING recalls wait (R145, R154). -/
def blockBank (b : BankId) (s : State) : State :=
  shiftRecalls b .reading .waiting (s.modBank b fun x => { x with blocked := true })

/-- A bank becomes free, and its pending recalls start their reads (R149, R152). -/
def unblockBank (b : BankId) (s : State) : State :=
  shiftRecalls b .waiting .reading (s.modBank b fun x => { x with blocked := false })

/-- The name bytes STORE accepts (R155). -/
def printable (name : Vector Byte 12) : Bool := name.toList.all fun c => 0x20 ≤ c.toNat && c.toNat ≤ 0x7E

/-- STORE (R155). -/
def storeRequest (tag part : Byte) (slot : BitVec 16) (category : Byte) (name : Vector Byte 12) (s : State) : State :=
  match part? part, slot? slot with
  | some p, some t =>
    if 15 < category.toNat || !printable name then refuse .badValue s
    else if slotLevel s t ≠ 0 then refuse .denied s
    else if engineBusy s then refuse .busy s
    else
      let image := patchPage category name s.pbu.live[p]
      placeReply .ok []
        (blockBank (bankOf t) (beginWrite .store (.slot t) tag [image] (some (p, s.pbu.edits[p].count)) s))
  | _, _ => refuse .badValue s

/-! ### Upload (R157 to R159) -/

/-- UPLOAD_CHUNK (R157). -/
def uploadChunkRequest (index : Byte) (chunk : Vector Byte 16) (s : State) : State :=
  match ident? 4 index.toNat with
  | none => refuse .badValue s
  | some i =>
    let t := s.pmc.staging
    if t.loaded[i] then refuse .alreadyLoaded s
    else placeReply .ok [] (setStaging
      { t with chunks := upd t.chunks i fun _ => chunk, loaded := upd t.loaded i fun _ => true } s)

/-- The 64 bytes of the staging buffer as a page (R157). -/
def stagedPage (t : Staging) : Page := Vector.ofFn fun i => (t.chunks[i.val / 16]'(by omega))[i.val % 16]

/-- Every chunk is loaded. -/
def fullyLoaded (t : Staging) : Bool := t.loaded.toList.all id

/-- UPLOAD_COMMIT (R158). -/
def uploadCommitRequest (tag : Byte) (slot : BitVec 16) (s : State) : State :=
  match slot? slot with
  | none => refuse .badValue s
  | some t =>
    let image := stagedPage s.pmc.staging
    if !fullyLoaded s.pmc.staging then refuse .incomplete s
    else if s.pmc.staging.committing then refuse .busy s
    else if slotStatus image ≠ .valid then refuse .badImage s
    else if slotLevel s t ≠ 0 then refuse .denied s
    else if engineBusy s then refuse .busy s
    else
      let s := blockBank (bankOf t) (beginWrite .commit (.slot t) tag [image] none s)
      placeReply .ok [] (setStaging { s.pmc.staging with committing := true } s)

/-- UPLOAD_CLEAR (R159). -/
def uploadClearRequest (s : State) : State :=
  if s.pmc.staging.committing then refuse .busy s else placeReply .ok [] (setStaging Staging.reset s)

/-! ### Export and slot information (R160, R161) -/

/-- EXPORT (R160): the reply waits for the page read. -/
def exportRequest (slot : BitVec 16) (chunk : Byte) (s : State) : State :=
  match slot? slot, ident? 4 chunk.toNat with
  | some t, some c =>
    if slotLevel s t = 2 then refuse .denied s
    else if slotBlocked s t then refuse .busy s
    else setPageRead (some (.exporting t c)) s
  | _, _ => refuse .badValue s

/-- The reply at the end of an EXPORT's read. -/
def endExport (t : SlotId) (c : Fin 4) (s : State) : State :=
  let page := slotContents s t
  if slotStatus page = .empty then placeReply .empty [] s
  else placeReply .ok ((page.toList.drop (16 * c.val)).take 16) s

/-- GET_SLOT_INFO (R161): the reply waits for the page read. -/
def getSlotInfoRequest (slot : BitVec 16) (s : State) : State :=
  match slot? slot with
  | none => refuse .badValue s
  | some t => if slotBlocked s t then refuse .busy s else setPageRead (some (.slotInfo t)) s

/-- The reply at the end of a GET_SLOT_INFO's read. -/
def endSlotInfo (t : SlotId) (s : State) : State :=
  let page := slotContents s t
  let st := slotStatus page
  let labels := if st = .empty then List.replicate 13 0 else (page.toList.drop 1).take 13
  placeReply .ok (st.code :: (labels ++ [byte (slotLevel s t)])) s

/-! ### Protection, wipe and tuning (R162 to R164) -/

/-- A bank number 0-1. -/
def bank? (b : Byte) : Option BankId := ident? 2 b.toNat

/-- The protection page of the levels in force. -/
def levelsPage (s : State) : Page := protectionPage s.pmc.banks[(0 : BankId)].level s.pmc.banks[(1 : BankId)].level

/-- PROTECT (R162). -/
def protectRequest (tag bank level : Byte) (s : State) : State :=
  match bank? bank, ident? 3 level.toNat with
  | some b, some l =>
    let now := s.pmc.banks[b].level
    if l < now then refuse .badValue s
    else if l = now then placeReply .ok [] s
    else if engineBusy s then refuse .busy s
    else
      let s := s.modBank b fun x => { x with level := l }
      placeReply .ok [] (beginWrite .protect (.bank b) tag [levelsPage s] none s)
  | _, _ => refuse .badValue s

/-- WIPE_BANK (R163). With a bank above 1 while the engine is busy both refusals apply and R163 gives no order: BAD_VALUE
is the model's answer (DESIGN CHOICE, log 33). -/
def wipeBankRequest (tag bank : Byte) (s : State) : State :=
  match bank? bank with
  | none => refuse .badValue s
  | some b =>
    if engineBusy s then refuse .busy s
    else placeReply .ok [] (blockBank b (beginWrite .wipe (.bank b) tag [] none s))

/-- The tuning page image of a voice (R164). -/
def savedPage (s : State) (v : VoiceId) : Page :=
  tuningPage v s.tun.tables[oscA v] s.tun.tables[oscB v] ((s.voice v).state = .disabled)

/-- SAVE_TUNING (R164). -/
def saveTuningRequest (tag : Byte) (s : State) : State :=
  if engineBusy s then refuse .busy s
  else placeReply .ok [] (beginWrite .saveTuning .nothing tag (allVoices.map (savedPage s)) none s)

/-! ### Pages written and erased, and completion (R148, R149, R156, R159, R163, R165) -/

/-- The page that the engine writes, with its image; `none` with no page write in progress. -/
def writingPage (e : Engine) : Option (PageNo × Page) :=
  match e.operation, e.target with
  | some .store, .slot t | some .commit, .slot t => e.image.head?.map fun i => (slotPage t, i)
  | some .protect, _ | some .wipe, _ => e.image.head?.map fun i => (protectionPageNo, i)
  | some .saveTuning, _ =>
    match ident? 16 e.progress, e.image[e.progress]? with
    | some v, some i => some (tuningPageNo v, i)
    | _, _ => none
  | some .store, _ | some .commit, _ | none, _ => none

/-- The slot page that the engine erases; `none` outside the erase phase of a wipe. -/
def erasingPage (e : Engine) : Option PageNo :=
  match e.operation, e.target, e.image with
  | some .wipe, .bank b, [] => (ident? 256 e.progress).map fun k => ⟨256 * b.val + k.val, by omega⟩
  | _, _, _ => none

/-- The bank that an operation blocks (R147). -/
def blockedBank (e : Engine) : Option BankId :=
  match e.operation, e.target with
  | some .store, .slot t | some .commit, .slot t => some (bankOf t)
  | some .wipe, .bank b => some b
  | _, _ => none

/-- STORE's own completion step (R156). -/
def storeCompleted (e : Engine) (s : State) : State :=
  match e.snapshot, e.target with
  | some (p, count), .slot t =>
    if e.verifyFail then s
    else s.modPbu fun b => { b with edits := upd b.edits p fun x =>
      { x with slot := some t, edited := if x.count = count then false else x.edited } }
  | _, _ => s

/-- The operation's own completion step (R149, step 1). -/
def ownCompletion (e : Engine) (s : State) : State :=
  match e.operation, e.target with
  | some .store, _ => storeCompleted e s
  | some .commit, _ => setStaging Staging.reset s
  | some .wipe, .bank b => s.modBank b fun x => { x with level := 0 }
  | some .wipe, _ | some .protect, _ | some .saveTuning, _ | none, _ => s

/-- WRITE_DONE for an engine record (R149, step 3). -/
def writeDone (e : Engine) (s : State) : State :=
  match e.operation with
  | none => s
  | some op => offerNotice (.writeDone op e.target e.verifyFail e.tag) s

/-- The bank that the operation blocked is free again (R149, step 4). -/
def unblockAfter (e : Engine) (s : State) : State :=
  match blockedBank e with
  | none => s
  | some b => unblockBank b s

/-- The completion of an operation: with Reset waiting the reset takes effect (R165), otherwise the steps of R149. -/
def completeWrite (s : State) : State :=
  let e := s.pmc.engine
  if e.resetWaiting then restartReset s
  else modEngine (fun _ => Engine.reset) (unblockAfter e (writeDone e (countUp cWrites (ownCompletion e s))))

/-- A page that reads back as `read` is verified against its image (R148). -/
def verifyPage (p : PageNo) (image read : Page) (s : State) : State :=
  if read = image then writeStore p image s
  else setFault fWriteVerify (modEngine (fun e => { e with verifyFail := true }) (writeStore p (read.set 0 0) s))

/-- The engine goes on after a page write: to its next page, or to the completion. -/
def afterPage (s : State) : State :=
  let e := s.pmc.engine
  if e.operation = some .saveTuning && e.progress + 1 < 16 then modEngine (fun e => { e with progress := e.progress + 1 }) s
  else completeWrite s

/-- A page of the erase phase is erased; after the last the protection page is built (R163, log 30). -/
def pageErased (b : BankId) (p : PageNo) (s : State) : State :=
  let s := writeStore p erasedPage s
  let levels := fun x : BankId => if x = b then (0 : Fin 3) else s.pmc.banks[x].level
  modEngine (fun e =>
    { e with progress := e.progress + 1,
             image := if e.progress = 255 then [protectionPage (levels 0) (levels 1)] else [] }) s

/-! ### A write cut short (R166) -/

/-- Whether a page is judged good by the format of its place: a VALID slot page, a good tuning or protection page. -/
def goodFor (p : PageNo) (page : Page) : Bool :=
  if p.val < 512 then slotStatus page = .valid
  else if p.val < 528 then tuningGood page
  else protectionGood page

/-- A page left EMPTY or CORRUPT, its bytes drawn free (log 9). -/
def spoilPage (p : PageNo) (s : State) : State :=
  { writeStore p (interruptedPage (goodFor p) s.freeDraws) s with freeDraws := s.freeDraws + 1 }

/-- The page store after a loss of power or an assertion of RESETn (R166, log 10). -/
def cutWrite (cut : CutPoint) (s : State) : State :=
  let e := s.pmc.engine
  match erasingPage e, writingPage e with
  | some p, _ => spoilPage p s
  | none, some (p, image) =>
    match cut with
    | .programming => spoilPage p s
    | .readBack => if e.operation = some .wipe then spoilPage p s else writeStore p image s
  | none, none => s

/-! ### Commands -/

/-- PAGE_WRITE_DONE: the page of the engine's progress is programmed and read back; `readBack` is what it reads, `none`
for its image (R148, R149; log 13). -/
def execPageWriteDone (readBack : Option Page) (s : State) : Host.Outcome State Fault Refusal :=
  match writingPage s.pmc.engine with
  | none => .next s
  | some (p, image) => .next (arbitrate (afterPage (verifyPage p image (readBack.getD image) s)))

/-- PAGE_ERASE_DONE: a page of a wipe's erase phase is erased (R163). -/
def execPageEraseDone (s : State) : Host.Outcome State Fault Refusal :=
  match erasingPage s.pmc.engine, s.pmc.engine.target with
  | some p, .bank b => .next (pageErased b p s)
  | some _, .nothing | some _, .slot _ | none, _ => .next s

/-- RECALL_READ_DONE: the page read of part p's recall ends (R153). -/
def execRecallReadDone (p : PartId) (s : State) : Host.Outcome State Fault Refusal :=
  match s.pmc.recalls[p] with
  | none => .next s
  | some r =>
    match r.phase with
    | .waiting => .next s
    | .reading => .next (arbitrate (endRecall p r s))

/-- EXPORT_READ_DONE: the reply of an EXPORT is placed (R160). -/
def execExportReadDone (s : State) : Host.Outcome State Fault Refusal :=
  match s.pmc.pageRead with
  | some (.exporting t c) => .next (arbitrate (endExport t c (setPageRead none s)))
  | some (.slotInfo _) | none => .next s

/-- SLOT_INFO_READ_DONE: the reply of a GET_SLOT_INFO is placed (R161). -/
def execSlotInfoReadDone (s : State) : Host.Outcome State Fault Refusal :=
  match s.pmc.pageRead with
  | some (.slotInfo t) => .next (arbitrate (endSlotInfo t (setPageRead none s)))
  | some (.exporting _ _) | none => .next s

end Sys2Proof.Machine
end

