-- ==== Sys2Proof/Machine/Status.lean ====
section
/-!
DEFINITION. The Status Unit's requests (09_faults_notices_and_counters): GET_FAULTS, SET_MASKS, TEST_MONITOR and
GET_COUNTERS.
-/

namespace Sys2Proof.Machine

/-- One bit of every flag as a two-byte field, flag n in bit n (R206). -/
def flagBits (u : Stu) (f : Flag → Bool) : List Byte := word (maskOf (u.flags.toList.map f))

/-- The masks as GET_FAULTS and SET_MASKS report them. -/
def maskFields (u : Stu) : List Byte :=
  word u.flagMask.toNat ++ [byte u.categoryMask.toNat, byte u.noticeMask.toNat]

/-- Every flag clear. -/
def clearFlags (s : State) : State := (s.modStu fun u => { u with flags := Vector.replicate 11 ⟨false, false⟩ }).updateAlert

/-- GET_FAULTS (R192): the flags are read, cleared when asked, and ALERT is read after. -/
def getFaultsRequest (clear : Byte) (s : State) : State :=
  match bit? clear with
  | none => refuse .badValue s
  | some c =>
    let seen := flagBits s.stu Flag.isSet ++ flagBits s.stu Flag.testMark ++ maskFields s.stu
    let s := if c then clearFlags s else s
    placeReply .ok (seen ++ [flagByte s.stu.alert]) s

/-- SET_MASKS (R195). -/
def setMasksRequest (flagMask : BitVec 16) (categoryMask noticeMask : Byte) (s : State) : State :=
  if 2048 ≤ flagMask.toNat || 16 ≤ categoryMask.toNat || 32 ≤ noticeMask.toNat then refuse .badValue s
  else
    let s := (s.modStu fun u =>
      { u with flagMask := flagMask.setWidth 11, categoryMask := categoryMask.setWidth 4,
               noticeMask := noticeMask.setWidth 5 }).updateAlert
    placeReply .ok (maskFields s.stu ++ [flagByte s.stu.alert]) s

/-- The results of TEST_MONITOR (R207). -/
def testArmed : Byte := 0
def testAlreadyPending : Byte := 1
def testDetected : Byte := 2
def testNotDetected : Byte := 3

/-- A pending test armed (R197). -/
def armTest (t : Fin 3) (s : State) : State :=
  if s.stu.tests[t] then placeReply .ok [testAlreadyPending] s
  else placeReply .ok [testArmed] (s.modStu fun u => { u with tests := upd u.tests t fun _ => true })

/-- A test made inside the request (R198): `mismatch` is what the check unit finds. -/
def unitTest (f : FlagId) (mismatch : Bool) (s : State) : State :=
  if mismatch then placeReply .ok [testDetected] (forceFault f s) else placeReply .ok [testNotDetected] s

/-- TEST_MONITOR (R197, R198). -/
def testMonitorRequest (monitor : Byte) (s : State) : State :=
  match monitor.toNat with
  | 0 => armTest 0 s
  | 1 => armTest 1 s
  | 2 => armTest 2 s
  | 5 => unitTest fRecallCrc (crc16 selfTestVector16 ≠ selfTestCheck16) s
  | 8 => unitTest fFrameCheck (crc8 selfTestVector8 ≠ selfTestCheck8) s
  | _ => refuse .badValue s

/-- A counter is in the run of `count` from `first` (R202). -/
def inRun (first count : Nat) (c : CounterId) : Bool := first ≤ c.val && c.val < first + count

/-- The counters of a run, in ascending order. -/
def runOf (first count : Nat) : List CounterId := (List.finRange 20).filter (inRun first count)

/-- The counters of a run become 0. -/
def clearRun (first count : Nat) (s : State) : State :=
  s.modStu fun u => { u with counters := Vector.ofFn fun c => if inRun first count c then 0 else u.counters[c] }

/-- GET_COUNTERS (R202). -/
def getCountersRequest (first count clear : Byte) (s : State) : State :=
  let a := first.toNat
  let n := count.toNat
  match bit? clear with
  | none => refuse .badValue s
  | some c =>
    if 19 < a || n = 0 || 12 < n || 20 < a + n then refuse .badValue s
    else
      let values := (runOf a n).flatMap fun k => bytes16 s.stu.counters[k]
      placeReply .ok (first :: count :: values) (if c then clearRun a n s else s)

end Sys2Proof.Machine
end

