-- ==== Sys2Proof/Machine/StartUp.lean ====
section
/-!
DEFINITION. Start-up (11_start_up_and_operating_sequences 11.1): RESETn, the loss of power, the load of the system area
and READY.
-/

namespace Sys2Proof.Machine

/-- The part held in reset, a page in progress left as R166 states (R210). -/
def holdReset (cut : CutPoint) (s : State) : State := resetBlocks .held (cutWrite cut s)

/-- Tuning page v judged (R211). -/
def judgeTuningPage (v : VoiceId) (s : State) : State :=
  let page := s.pmc.memory.page (tuningPageNo v)
  if tuningGood page then
    let s := (s.setTable (oscA v) (tableA page)).setTable (oscB v) (tableB page)
    if page[50].getLsbD 0 then becomeDisabled v (s.leaveLists v) else s
  else
    let zero := Vector.replicate 12 0
    setFault fStartupCrc ((s.setTable (oscA v) zero).setTable (oscB v) zero)

/-- Both levels replaced. -/
def setLevels (level0 level1 : Fin 3) (s : State) : State :=
  (s.modBank 0 fun x => { x with level := level0 }).modBank 1 fun x => { x with level := level1 }

/-- The protection page judged (R212). -/
def judgeProtectionPage (s : State) : State :=
  let page := s.pmc.memory.page protectionPageNo
  if protectionGood page then setLevels (levelOf page[1]) (levelOf page[2]) s
  else setFault fStartupCrc (setLevels 2 2 s)

/-- READY (R213): offered and the phase RUNNING, with the first refresh pass and the first scan pass begun. -/
def becomeReady (s : State) : State :=
  beginScanPass (beginRefreshPass { offerNotice .ready s with phase := .running })

/-! ### Commands -/

/-- RESETN_ASSERT: every block is reset and the phase is HELD (R210); `cut` places the event in a page write in progress
(R166). -/
def execResetnAssert (cut : CutPoint) (s : State) : Host.Outcome State Fault Refusal := .next (holdReset cut s)

/-- LOSS_OF_POWER: the state is lost but for the page store; power returns with RESETn asserted (R166, log 11). -/
def execLossOfPower (cut : CutPoint) (s : State) : Host.Outcome State Fault Refusal := .next (holdReset cut s)

/-- RESETN_RELEASE: HELD to LOADING, the load begins from page 0 (R210). -/
def execResetnRelease (s : State) : Host.Outcome State Fault Refusal :=
  match s.phase with
  | .held => .next { s with phase := .loading, loadPage := 0 }
  | .loading | .running => .next s

/-- TUNING_PAGE_READ_DONE: the tuning page of the load's progress is judged (R211). -/
def execTuningPageReadDone (s : State) : Host.Outcome State Fault Refusal :=
  match s.phase, ident? 16 s.loadPage with
  | .loading, some v => .next (arbitrate { judgeTuningPage v s with loadPage := ⟨v.val + 1, by omega⟩ })
  | .loading, none | .held, _ | .running, _ => .next s

/-- PROTECTION_PAGE_READ_DONE: the protection page is judged and READY is queued (R212, R213). -/
def execProtectionPageReadDone (s : State) : Host.Outcome State Fault Refusal :=
  match s.phase, ident? 16 s.loadPage with
  | .loading, none => .next (arbitrate (becomeReady (judgeProtectionPage s)))
  | .loading, some _ | .held, _ | .running, _ => .next s

end Sys2Proof.Machine
end

