-- ==== Sys2Proof/WellFormed.lean ====
section
/-!
DEFINITION. The well-formed commands: the operand types bound every field but those of UNKNOWN_KIND_FRAME, whose KIND
must be unknown (R175, R206) and whose payload must fit a frame (R204).
-/

namespace Sys2Proof

/-- The longest payload of a frame (R204). -/
def maxPayload : Nat := 32

/-- A KIND that is neither a performance kind nor a listed request kind (R175). -/
def isUnknownKind (kind : Byte) : Bool := (payloadLength? kind).isNone

/-- The commands a host and its surroundings can give. -/
def Instr.wellFormed : Instr → Bool
  | .unknownKindFrame kind _ payload => isUnknownKind kind && decide (payload.length ≤ maxPayload)
  | _ => true

end Sys2Proof
end

