-- ==== Sys2Proof/Machine/Link.lean ====
section
/-!
DEFINITION. The Link Controller (08_message_link): its own requests, the decoder, the inbound queue, the frame receiver,
the end of a transmitted frame, and the arrival of a message.
-/

namespace Sys2Proof.Machine

/-! ### Global settings (R185, R186) -/

/-- A global setting as GET_GLOBAL reports it; `none` for an item above 6. -/
def globalField (s : State) (item : Byte) : Option (List Byte) :=
  match item.toNat with
  | 0 => some (signedWord s.cvo.masterTune)
  | 1 => some (word s.vas.gateGap)
  | 2 => some (word s.vas.tailQuench)
  | 3 => some (word s.pns.scanPeriod)
  | 4 => some (word s.tun.settleTime)
  | 5 => some (word s.tun.interval)
  | 6 => some (word s.pbu.focus)
  | _ => none

/-- A global setting clamped and stored with its write's effects (R19, R55, R92, R98, R102, R131). -/
def writeGlobal (item : Byte) (value : BitVec 16) (s : State) : State :=
  let n := value.toNat
  match item.toNat with
  | 0 => s.modCvo fun x => { x with masterTune := clampInt (-512) 511 value.toInt }
  | 1 => s.modVas fun x => { x with gateGap := clampNat 1 10 n }
  | 2 => s.modVas fun x => { x with tailQuench := min n 1 }
  | 3 => s.modPns fun x => { x with scanPeriod := clampNat 2 16 n }
  | 4 => s.modTun fun x => { x with settleTime := clampNat 2 50 n }
  | 5 => writeInterval (min n 60) s
  | 6 => writeFocus n s
  | _ => s

/-- The reply to both requests of the global settings. -/
def replyGlobal (item : Byte) (s : State) : State :=
  match globalField s item with
  | none => refuse .badValue s
  | some field => placeReply .ok (item :: field) s

/-- SET_GLOBAL (R185): an item above 6 writes nothing and is refused. -/
def setGlobalRequest (item : Byte) (value : BitVec 16) (s : State) : State :=
  replyGlobal item (writeGlobal item value s)

/-- GET_GLOBAL (R186). -/
def getGlobalRequest (item : Byte) (s : State) : State := replyGlobal item s

/-! ### Identification and restart (R179, R187) -/

/-- The readiness mark (R187). -/
def readiness (p : Phase) : Bool :=
  match p with
  | .running => true
  | .held | .loading => false

/-- IDENTIFY (R187): vendor 4546h, part 1632h, page format version 1, 16 voices, 4 parts, readiness. -/
def identifyRequest (s : State) : State :=
  placeReply .ok [0x45, 0x46, 0x16, 0x32, 1, 16, 4, flagByte (readiness s.phase)] s

/-- RESTART (R179): answered OK; it is accepted at the end of that reply. -/
def restartRequest (s : State) : State := placeReply .ok [] s

/-- The reply that ends a RESTART: kind 91h with the status OK alone (log 23). -/
def isRestartReply (f : Frame) : Bool := f.kind = 0x91 && f.payload = [Status.ok.code]

/-! ### The decoder (R174 to R177) -/

/-- A message as its owner carries it out (R176, R177); a command that is no message carries nothing. -/
def perform : Instr → State → State
  | .keyDown c n v => keyDownMessage c n v
  | .keyUp c n => keyUpMessage c n
  | .bend c value => bendMessage c value
  | .pedal c value => pedalMessage c value
  | .silence mask form => silenceMessage mask form
  | .identify _ => identifyRequest
  | .restart _ => restartRequest
  | .setGlobal _ item value => setGlobalRequest item value
  | .getGlobal _ item => getGlobalRequest item
  | .setRoute _ part channel low high => setRouteRequest part channel low high
  | .setPool _ entries => setPoolRequest entries
  | .setVoiceEnable _ v on => setVoiceEnableRequest v on
  | .getVoice _ v => getVoiceRequest v
  | .getPart _ part => getPartRequest part
  | .getLists _ part list => getListsRequest part list
  | .setParam _ part index value => setParamRequest part index value
  | .getParam _ part index => getParamRequest part index
  | .bindControl _ c t p i m d r => bindControlRequest c t p i m d r
  | .getControl _ c => getControlRequest c
  | .recallSlot tag part slot => recallRequest tag part slot
  | .store tag part slot category name => storeRequest tag part slot category name
  | .uploadChunk _ index chunk => uploadChunkRequest index chunk
  | .uploadCommit tag slot => uploadCommitRequest tag slot
  | .uploadClear _ => uploadClearRequest
  | .exportSlot _ slot chunk => exportRequest slot chunk
  | .protect tag bank level => protectRequest tag bank level
  | .wipeBank tag bank => wipeBankRequest tag bank
  | .getSlotInfo _ slot => getSlotInfoRequest slot
  | .saveTuning tag => saveTuningRequest tag
  | .tuneStart tag mask => tuneStartRequest tag mask
  | .tuneAbort _ => tuneAbortRequest
  | .getTuning _ o => getTuningRequest o
  | .resetTuning _ mask => resetTuningRequest mask
  | .getFaults _ clear => getFaultsRequest clear
  | .setMasks _ fm cm nm => setMasksRequest fm cm nm
  | .testMonitor _ monitor => testMonitorRequest monitor
  | .getCounters _ first count clear => getCountersRequest first count clear
  | .unknownKindFrame _ _ _ | .resetnAssert _ | .resetnRelease | .tuningPageReadDone | .protectionPageReadDone
  | .receivedByte _ | .framingError | .lineBreak | .byteGapExpiry | .frameSent | .releaseHoldExpiry _
  | .quenchExpiry _ | .gapExpiry _ | .refreshPassTimerExpiry | .outputVisit | .settleExpiry _ | .oscRisingEdge _ _
  | .edgeTimerExpiry _ | .countTimerExpiry _ | .backgroundIntervalExpiry | .scanTimerExpiry | .switchSampling _
  | .controlConversion _ | .referenceConversion _ | .readbackConversionDone _ | .pageWriteDone _ | .pageEraseDone
  | .recallReadDone _ | .exportReadDone | .slotInfoReadDone | .lossOfPower _ => id

/-- IDENTIFY, the one request carried out before READY (R175, check 4). -/
def answeredBeforeReady (kind : Byte) : Bool := kind = 0x10

/-- A frame discarded by the receiver, or as a performance message of wrong length (R172, R175, R191). -/
def countDiscard (s : State) : State := countUp cFramesDiscarded (setFault fFrameCheck s)

/-- The reply slot taken by a request (R177). -/
def takeSlot (kind tag : Byte) (s : State) : State := s.modLnk fun l => { l with slot := .pending kind tag }

/-- A frame that passes the checks of R175 is handed over: a performance message to the Voice Assigner, a request to
its owner with the reply slot PENDING (R176, R177). -/
def handOver (f : Frame) (i : Instr) (s : State) : State :=
  if isPerformanceKind f.kind then perform i s else perform i (takeSlot f.kind f.tag s)

/-- The decoder classifies a frame and acts on it (R175). -/
def takeFrame (f : Frame) (s : State) : State :=
  if isPerformanceKind f.kind && !readiness s.phase then s
  else match frameMeaning f with
    | .unknownKind => placeReplyFor f.kind f.tag .badKind [] s
    | .wrongLength =>
      if isPerformanceKind f.kind then countDiscard s else placeReplyFor f.kind f.tag .badLength [] s
    | .message i =>
      if !readiness s.phase && !answeredBeforeReady f.kind then placeReplyFor f.kind f.tag .notReady [] s
      else handOver f i s

/-- The decoder serves the inbound queue while the reply slot is EMPTY (R174), at most `n` frames. -/
def serve : Nat → State → State
  | 0, s => s
  | n + 1, s =>
    match s.lnk.slot, s.lnk.inbound with
    | .empty, f :: rest => serve n (takeFrame f (s.modLnk fun l => { l with inbound := rest }))
    | .empty, [] | .pending _ _, _ | .full _, _ | .sending, _ => s

/-- The decoder becomes free or finds a frame (R174). -/
def serveInbound (s : State) : State := serve s.lnk.inbound.length s

/-! ### The inbound queue (R173) -/

/-- The most frames the inbound queue holds (R173). -/
def inboundCapacity : Nat := 8

/-- A complete frame is offered to the inbound queue (R173). -/
def offerFrame (f : Frame) (s : State) : State :=
  if s.lnk.inbound.length < inboundCapacity then
    serveInbound (s.modLnk fun l => { l with inbound := l.inbound ++ [f] })
  else countUp cFramesDiscarded (setFault fInboundOverrun s)

/-! ### The frame receiver (R169 to R172) -/

/-- The byte gap timer in ms (R170). -/
def byteGap : Nat := 1

/-- The receiver's state and gap timer replaced. -/
def setRx (rx : RxState) (gap : Timer) (s : State) : State := s.modLnk fun l => { l with rx := rx, gapTimer := gap }

/-- The receiver hunts, holding no frame. -/
def hunt (s : State) : State := setRx .hunt none s

/-- The receiver goes on with the frame in assembly; the byte gap timer restarts (R169). -/
def assemble (rx : RxState) (s : State) : State := setRx rx (some byteGap) s

/-- A frame in assembly is discarded (R172). -/
def discardFrame (s : State) : State := countDiscard (hunt s)

/-- The SYNC byte. -/
def syncByte : Byte := 0xD3

/-- A received byte acts by the receiver's state (R169). -/
def receiveByte (b : Byte) (s : State) : State :=
  match s.lnk.rx with
  | .hunt => if b = syncByte then assemble .len s else s
  | .len => if b.toNat ≤ maxPayload then assemble (.kind b) s else discardFrame s
  | .kind len => assemble (.tag len b) s
  | .tag len kind => assemble (if len = 0 then .check len kind b [] else .payload len kind b []) s
  | .payload len kind tag got =>
    let all := got ++ [b]
    assemble (if all.length = len.toNat then .check len kind tag all else .payload len kind tag all) s
  | .check len kind tag got =>
    if b = crc8 (len :: kind :: tag :: got) then offerFrame ⟨kind, tag, got⟩ (hunt s) else discardFrame s

/-- RESETn is not asserted: the link receives (R210, R214). -/
def linkAwake (s : State) : Bool :=
  match s.phase with
  | .held => false
  | .loading | .running => true

/-- An event of the link: without effect while RESETn is asserted (R210), then the arbiter's decision (R183, log 5). -/
def linkEvent (f : State → State) (s : State) : State := if linkAwake s then arbitrate (f s) else s

/-! ### Commands of the line -/

/-- RECEIVED_BYTE (R168, R169). -/
def execReceivedByte (b : Byte) (s : State) : Host.Outcome State Fault Refusal := .next (linkEvent (receiveByte b) s)

/-- A framing error discards a frame in assembly; in HUNT it is ignored (R168, R172). -/
def framingFault (s : State) : State :=
  match s.lnk.rx with
  | .hunt => s
  | .len | .kind _ | .tag _ _ | .payload _ _ _ _ | .check _ _ _ _ => discardFrame s

/-- FRAMING_ERROR (R168). -/
def execFramingError (s : State) : Host.Outcome State Fault Refusal := .next (linkEvent framingFault s)

/-- BREAK: the frame in assembly is dropped uncounted (R171). -/
def execLineBreak (s : State) : Host.Outcome State Fault Refusal := .next (linkEvent hunt s)

/-- BYTE_GAP_EXPIRY: the frame in assembly is discarded (R170). -/
def execByteGapExpiry (s : State) : Host.Outcome State Fault Refusal :=
  match s.lnk.gapTimer with
  | none => .next s
  | some _ => .next (linkEvent discardFrame s)

/-- The transmitter is idle and a sent reply frees its slot (R178, R183). -/
def endFrame (t : Sending) (s : State) : State :=
  s.modLnk fun l =>
    { l with tx := none, slot := match t with | .reply _ => .empty | .notice _ _ => l.slot }

/-- What the end of a transmitted frame brings: the acceptance of a RESTART (R179), then the decoder, which finds its
slot EMPTY (R174; log 6), then the arbiter (R183). -/
def frameEnds (t : Sending) (s : State) : State :=
  let s := endFrame t s
  match t with
  | .notice _ _ => arbitrate (serveInbound s)
  | .reply f => arbitrate (serveInbound (if isRestartReply f then acceptRestart s else s))

/-- FRAME_SENT: the end of the last byte of the frame on the line (R183). -/
def execFrameSent (s : State) : Host.Outcome State Fault Refusal :=
  match s.lnk.tx with
  | none => .next s
  | some t => .next (frameEnds t s)

/-! ### The arrival of a message -/

/-- The host's whole frame for a message command arrives with a good CHECK (R169, R173; log 1). A payload too long for
any frame is discarded at its LEN (R172; log 22). -/
def messageFrame (f : Frame) (s : State) : State :=
  if f.payload.length ≤ maxPayload then offerFrame f s else countDiscard s

/-- A message command. -/
def arrive (i : Instr) (s : State) : Host.Outcome State Fault Refusal :=
  match frameOf i with
  | none => .next s
  | some f => .next (linkEvent (messageFrame f) s)

end Sys2Proof.Machine
end

