-- ==== Sys2Proof/Machine/Judge.lean ====
section
/-!
DEFINITION. The reference conversions with the JUDGE step that follows (05_panel_scanning 5.2, 5.3), and a moment of the
link that falls between two motion events of it (R112).
-/

namespace Sys2Proof.Machine

/-- The link's moment, whole: what RECEIVED_BYTE or FRAME_SENT does (R169, R183). -/
def linkMoment (m : LinkMoment) (s : State) : State :=
  match m with
  | .byteReceived b => linkEvent (receiveByte b) s
  | .frameSent =>
    match s.lnk.tx with
    | none => s
    | some t => frameEnds t s

/-- The link's moment, if there is one, after the step it did not divide. -/
def thenMeeting (between : Option Meeting) (s : State) : State :=
  match between with
  | none => s
  | some x => linkMoment x.moment s

/-- What follows an event of the Panel Scanner that began in `before`: the background pass (R94) and the arbiter (R183,
log 5). -/
def settled (before s : State) : State := arbitrate (settlePass before s)

/-- An applied JUDGE step that the link's moment divides (R112): the controls before it are evaluated, then the moment
happens, then the others are evaluated. A reset that the moment brings stops the pass (R105). -/
def judgeAround (x : Meeting) (before s : State) : State :=
  let met := linkMoment x.moment
    (settled before ((allControls.filter (· < x.before)).foldl evaluateControl (judgeReferences s)))
  match met.pns.position with
  | .judge => settled met (beginReadback ((allControls.filter (x.before ≤ ·)).foldl evaluateControl met))
  | .idle | .switches | .control _ | .refLow | .refHigh | .readback => met

/-- The JUDGE step of an event that began in `before`. A held pass evaluates nothing, so that the link's moment follows
it. -/
def judgeMeeting (between : Option Meeting) (before s : State) : State :=
  match between with
  | none => settled before (judge s)
  | some x =>
    if passApplied s.pns then judgeAround x before s else linkMoment x.moment (settled before (judge s))

/-- REFERENCE_CONVERSION: at REF_LOW the reading is kept; at REF_HIGH it is kept and the JUDGE step follows at once (R103,
R106, R107, R112, R118). -/
def execReferenceConversion (x : ReferenceReading) (s : State) : Host.Outcome State Fault Refusal :=
  match s.pns.position with
  | .refLow =>
    let r := convertReference s.pns.refLow s.stu.tests[(0 : Fin 3)] x.raw
    .next (thenMeeting x.between (clearTest 0 (toStep .refHigh (s.modPns fun p => { p with refLow := r }))))
  | .refHigh =>
    let r := convertReference s.pns.refHigh s.stu.tests[(1 : Fin 3)] x.raw
    .next (judgeMeeting x.between s (clearTest 1 (toStep .judge (s.modPns fun p => { p with refHigh := r }))))
  | .idle | .switches | .control _ | .judge | .readback => .next (thenMeeting x.between s)

end Sys2Proof.Machine
end

