-- ==== Sys2Proof/Machine/Messages.lean ====
section
/-!
DEFINITION. The message commands, one meaning each: the host's whole frame arrives with a good CHECK (R169, log 1), joins
the inbound queue (R173) and is carried out when the decoder takes it (R174 to R177) by its owner's handler, which the
docstring names; the arbiter then decides (R183).
-/

namespace Sys2Proof.Machine

/-- UNKNOWN_KIND_FRAME (R175): refused BAD_KIND by `takeFrame`. -/
def execUnknownKindFrame (kind tag : Byte) (payload : List Byte) (s : State) : Host.Outcome State Fault Refusal :=
  arrive (.unknownKindFrame kind tag payload) s

/-- KEY_DOWN (R20): `keyDownMessage`. -/
def execKeyDown (channel note velocity : Byte) (s : State) : Host.Outcome State Fault Refusal :=
  arrive (.keyDown channel note velocity) s

/-- KEY_UP (R30): `keyUpMessage`. -/
def execKeyUp (channel note : Byte) (s : State) : Host.Outcome State Fault Refusal :=
  arrive (.keyUp channel note) s

/-- BEND (R43): `bendMessage`. -/
def execBend (channel : Byte) (value : BitVec 16) (s : State) : Host.Outcome State Fault Refusal :=
  arrive (.bend channel value) s

/-- PEDAL (R33): `pedalMessage`. -/
def execPedal (channel value : Byte) (s : State) : Host.Outcome State Fault Refusal :=
  arrive (.pedal channel value) s

/-- SILENCE (R45): `silenceMessage`. -/
def execSilence (mask form : Byte) (s : State) : Host.Outcome State Fault Refusal :=
  arrive (.silence mask form) s

/-- IDENTIFY (R187): `identifyRequest`. -/
def execIdentify (tag : Byte) (s : State) : Host.Outcome State Fault Refusal :=
  arrive (.identify tag) s

/-- RESTART (R179): `restartRequest`. -/
def execRestart (tag : Byte) (s : State) : Host.Outcome State Fault Refusal :=
  arrive (.restart tag) s

/-- SET_GLOBAL (R185): `setGlobalRequest`. -/
def execSetGlobal (tag item : Byte) (value : BitVec 16) (s : State) : Host.Outcome State Fault Refusal :=
  arrive (.setGlobal tag item value) s

/-- GET_GLOBAL (R186): `getGlobalRequest`. -/
def execGetGlobal (tag item : Byte) (s : State) : Host.Outcome State Fault Refusal :=
  arrive (.getGlobal tag item) s

/-- SET_ROUTE (R9): `setRouteRequest`. -/
def execSetRoute (tag part channel low high : Byte) (s : State) : Host.Outcome State Fault Refusal :=
  arrive (.setRoute tag part channel low high) s

/-- SET_POOL (R10): `setPoolRequest`. -/
def execSetPool (tag : Byte) (entries : Vector Byte 16) (s : State) : Host.Outcome State Fault Refusal :=
  arrive (.setPool tag entries) s

/-- SET_VOICE_ENABLE (R14): `setVoiceEnableRequest`. -/
def execSetVoiceEnable (tag voice enable : Byte) (s : State) : Host.Outcome State Fault Refusal :=
  arrive (.setVoiceEnable tag voice enable) s

/-- GET_VOICE (R15): `getVoiceRequest`. -/
def execGetVoice (tag voice : Byte) (s : State) : Host.Outcome State Fault Refusal :=
  arrive (.getVoice tag voice) s

/-- GET_PART (R16): `getPartRequest`. -/
def execGetPart (tag part : Byte) (s : State) : Host.Outcome State Fault Refusal :=
  arrive (.getPart tag part) s

/-- GET_LISTS (R17): `getListsRequest`. -/
def execGetLists (tag part list : Byte) (s : State) : Host.Outcome State Fault Refusal :=
  arrive (.getLists tag part list) s

/-- SET_PARAM (R124): `setParamRequest`. -/
def execSetParam (tag part index : Byte) (value : BitVec 16) (s : State) : Host.Outcome State Fault Refusal :=
  arrive (.setParam tag part index value) s

/-- GET_PARAM (R125): `getParamRequest`. -/
def execGetParam (tag part index : Byte) (s : State) : Host.Outcome State Fault Refusal :=
  arrive (.getParam tag part index) s

/-- BIND_CONTROL (R129): `bindControlRequest`. -/
def execBindControl (tag control target part index mode deadband report : Byte)
    (s : State) : Host.Outcome State Fault Refusal :=
  arrive (.bindControl tag control target part index mode deadband report) s

/-- GET_CONTROL (R130): `getControlRequest`. -/
def execGetControl (tag control : Byte) (s : State) : Host.Outcome State Fault Refusal :=
  arrive (.getControl tag control) s

/-- RECALL (R150): `recallRequest`. -/
def execRecall (tag part : Byte) (slot : BitVec 16) (s : State) : Host.Outcome State Fault Refusal :=
  arrive (.recallSlot tag part slot) s

/-- STORE (R155): `storeRequest`. -/
def execStore (tag part : Byte) (slot : BitVec 16) (category : Byte) (name : Vector Byte 12)
    (s : State) : Host.Outcome State Fault Refusal :=
  arrive (.store tag part slot category name) s

/-- UPLOAD_CHUNK (R157): `uploadChunkRequest`. -/
def execUploadChunk (tag index : Byte) (chunk : Vector Byte 16) (s : State) : Host.Outcome State Fault Refusal :=
  arrive (.uploadChunk tag index chunk) s

/-- UPLOAD_COMMIT (R158): `uploadCommitRequest`. -/
def execUploadCommit (tag : Byte) (slot : BitVec 16) (s : State) : Host.Outcome State Fault Refusal :=
  arrive (.uploadCommit tag slot) s

/-- UPLOAD_CLEAR (R159): `uploadClearRequest`. -/
def execUploadClear (tag : Byte) (s : State) : Host.Outcome State Fault Refusal :=
  arrive (.uploadClear tag) s

/-- EXPORT (R160): `exportRequest`. -/
def execExportSlot (tag : Byte) (slot : BitVec 16) (chunk : Byte) (s : State) : Host.Outcome State Fault Refusal :=
  arrive (.exportSlot tag slot chunk) s

/-- PROTECT (R162): `protectRequest`. -/
def execProtect (tag bank level : Byte) (s : State) : Host.Outcome State Fault Refusal :=
  arrive (.protect tag bank level) s

/-- WIPE_BANK (R163): `wipeBankRequest`. -/
def execWipeBank (tag bank : Byte) (s : State) : Host.Outcome State Fault Refusal :=
  arrive (.wipeBank tag bank) s

/-- GET_SLOT_INFO (R161): `getSlotInfoRequest`. -/
def execGetSlotInfo (tag : Byte) (slot : BitVec 16) (s : State) : Host.Outcome State Fault Refusal :=
  arrive (.getSlotInfo tag slot) s

/-- SAVE_TUNING (R164): `saveTuningRequest`. -/
def execSaveTuning (tag : Byte) (s : State) : Host.Outcome State Fault Refusal :=
  arrive (.saveTuning tag) s

/-- TUNE_START (R84): `tuneStartRequest`. -/
def execTuneStart (tag : Byte) (mask : BitVec 16) (s : State) : Host.Outcome State Fault Refusal :=
  arrive (.tuneStart tag mask) s

/-- TUNE_ABORT (R89): `tuneAbortRequest`. -/
def execTuneAbort (tag : Byte) (s : State) : Host.Outcome State Fault Refusal :=
  arrive (.tuneAbort tag) s

/-- GET_TUNING (R99): `getTuningRequest`. -/
def execGetTuning (tag osc : Byte) (s : State) : Host.Outcome State Fault Refusal :=
  arrive (.getTuning tag osc) s

/-- RESET_TUNING (R100): `resetTuningRequest`. -/
def execResetTuning (tag : Byte) (mask : BitVec 32) (s : State) : Host.Outcome State Fault Refusal :=
  arrive (.resetTuning tag mask) s

/-- GET_FAULTS (R192): `getFaultsRequest`. -/
def execGetFaults (tag clear : Byte) (s : State) : Host.Outcome State Fault Refusal :=
  arrive (.getFaults tag clear) s

/-- SET_MASKS (R195): `setMasksRequest`. -/
def execSetMasks (tag : Byte) (flagMask : BitVec 16) (categoryMask noticeMask : Byte)
    (s : State) : Host.Outcome State Fault Refusal :=
  arrive (.setMasks tag flagMask categoryMask noticeMask) s

/-- TEST_MONITOR (R197): `testMonitorRequest`. -/
def execTestMonitor (tag monitor : Byte) (s : State) : Host.Outcome State Fault Refusal :=
  arrive (.testMonitor tag monitor) s

/-- GET_COUNTERS (R202): `getCountersRequest`. -/
def execGetCounters (tag first count clear : Byte) (s : State) : Host.Outcome State Fault Refusal :=
  arrive (.getCounters tag first count clear) s

end Sys2Proof.Machine
end

