-- ==== Sys2Proof/Machine/Dispatch.lean ====
section
/-!
DEFINITION. The command dispatcher: one arm for each constructor of `Instr`, each one direct call of its meaning.
-/

namespace Sys2Proof.Machine

def exec (i : Instr) (s : State) : Host.Outcome State Fault Refusal :=
  match i with
  | .resetnAssert cut => Sys2Proof.Machine.execResetnAssert cut s
  | .resetnRelease => Sys2Proof.Machine.execResetnRelease s
  | .tuningPageReadDone => Sys2Proof.Machine.execTuningPageReadDone s
  | .protectionPageReadDone => Sys2Proof.Machine.execProtectionPageReadDone s
  | .receivedByte b => Sys2Proof.Machine.execReceivedByte b s
  | .framingError => Sys2Proof.Machine.execFramingError s
  | .lineBreak => Sys2Proof.Machine.execLineBreak s
  | .byteGapExpiry => Sys2Proof.Machine.execByteGapExpiry s
  | .frameSent => Sys2Proof.Machine.execFrameSent s
  | .unknownKindFrame kind tag payload => Sys2Proof.Machine.execUnknownKindFrame kind tag payload s
  | .keyDown channel note velocity => Sys2Proof.Machine.execKeyDown channel note velocity s
  | .keyUp channel note => Sys2Proof.Machine.execKeyUp channel note s
  | .bend channel value => Sys2Proof.Machine.execBend channel value s
  | .pedal channel value => Sys2Proof.Machine.execPedal channel value s
  | .silence mask form => Sys2Proof.Machine.execSilence mask form s
  | .releaseHoldExpiry v => Sys2Proof.Machine.execReleaseHoldExpiry v s
  | .quenchExpiry v => Sys2Proof.Machine.execQuenchExpiry v s
  | .gapExpiry v => Sys2Proof.Machine.execGapExpiry v s
  | .refreshPassTimerExpiry => Sys2Proof.Machine.execRefreshPassTimerExpiry s
  | .outputVisit => Sys2Proof.Machine.execOutputVisit s
  | .settleExpiry c => Sys2Proof.Machine.execSettleExpiry c s
  | .oscRisingEdge o cycles => Sys2Proof.Machine.execOscRisingEdge o cycles s
  | .edgeTimerExpiry c => Sys2Proof.Machine.execEdgeTimerExpiry c s
  | .countTimerExpiry c => Sys2Proof.Machine.execCountTimerExpiry c s
  | .backgroundIntervalExpiry => Sys2Proof.Machine.execBackgroundIntervalExpiry s
  | .scanTimerExpiry => Sys2Proof.Machine.execScanTimerExpiry s
  | .switchSampling samples => Sys2Proof.Machine.execSwitchSampling samples s
  | .controlConversion raw => Sys2Proof.Machine.execControlConversion raw s
  | .referenceConversion raw => Sys2Proof.Machine.execReferenceConversion raw s
  | .readbackConversionDone raw => Sys2Proof.Machine.execReadbackConversionDone raw s
  | .pageWriteDone readBack => Sys2Proof.Machine.execPageWriteDone readBack s
  | .pageEraseDone => Sys2Proof.Machine.execPageEraseDone s
  | .recallReadDone p => Sys2Proof.Machine.execRecallReadDone p s
  | .exportReadDone => Sys2Proof.Machine.execExportReadDone s
  | .slotInfoReadDone => Sys2Proof.Machine.execSlotInfoReadDone s
  | .identify tag => Sys2Proof.Machine.execIdentify tag s
  | .restart tag => Sys2Proof.Machine.execRestart tag s
  | .setGlobal tag item value => Sys2Proof.Machine.execSetGlobal tag item value s
  | .getGlobal tag item => Sys2Proof.Machine.execGetGlobal tag item s
  | .setRoute tag part channel low high => Sys2Proof.Machine.execSetRoute tag part channel low high s
  | .setPool tag entries => Sys2Proof.Machine.execSetPool tag entries s
  | .setVoiceEnable tag voice enable => Sys2Proof.Machine.execSetVoiceEnable tag voice enable s
  | .getVoice tag voice => Sys2Proof.Machine.execGetVoice tag voice s
  | .getPart tag part => Sys2Proof.Machine.execGetPart tag part s
  | .getLists tag part list => Sys2Proof.Machine.execGetLists tag part list s
  | .setParam tag part index value => Sys2Proof.Machine.execSetParam tag part index value s
  | .getParam tag part index => Sys2Proof.Machine.execGetParam tag part index s
  | .bindControl tag control target part index mode deadband report => Sys2Proof.Machine.execBindControl tag control target part index mode deadband report s
  | .getControl tag control => Sys2Proof.Machine.execGetControl tag control s
  | .recallSlot tag part slot => Sys2Proof.Machine.execRecall tag part slot s
  | .store tag part slot category name => Sys2Proof.Machine.execStore tag part slot category name s
  | .uploadChunk tag index chunk => Sys2Proof.Machine.execUploadChunk tag index chunk s
  | .uploadCommit tag slot => Sys2Proof.Machine.execUploadCommit tag slot s
  | .uploadClear tag => Sys2Proof.Machine.execUploadClear tag s
  | .exportSlot tag slot chunk => Sys2Proof.Machine.execExportSlot tag slot chunk s
  | .protect tag bank level => Sys2Proof.Machine.execProtect tag bank level s
  | .wipeBank tag bank => Sys2Proof.Machine.execWipeBank tag bank s
  | .getSlotInfo tag slot => Sys2Proof.Machine.execGetSlotInfo tag slot s
  | .saveTuning tag => Sys2Proof.Machine.execSaveTuning tag s
  | .tuneStart tag mask => Sys2Proof.Machine.execTuneStart tag mask s
  | .tuneAbort tag => Sys2Proof.Machine.execTuneAbort tag s
  | .getTuning tag osc => Sys2Proof.Machine.execGetTuning tag osc s
  | .resetTuning tag mask => Sys2Proof.Machine.execResetTuning tag mask s
  | .getFaults tag clear => Sys2Proof.Machine.execGetFaults tag clear s
  | .setMasks tag flagMask categoryMask noticeMask => Sys2Proof.Machine.execSetMasks tag flagMask categoryMask noticeMask s
  | .testMonitor tag monitor => Sys2Proof.Machine.execTestMonitor tag monitor s
  | .getCounters tag first count clear => Sys2Proof.Machine.execGetCounters tag first count clear s
  | .lossOfPower cut => Sys2Proof.Machine.execLossOfPower cut s

end Sys2Proof.Machine
end

