-- ==== Sys2Proof/Safety.lean ====
section
/-!
DEFINITION. The terms in which statements about the part are made: when a message is served at once, what an answered
request leaves, what the line delivers byte by byte, and the invariants every step keeps.
-/

namespace Sys2Proof.Machine

/-! ### Messages and their replies -/

/-- The link is awake with the reply slot EMPTY and no frame waiting, so that the decoder takes an arriving frame at
once (R174). -/
abbrev Listening (s : State) : Prop := linkAwake s = true ∧ s.lnk.slot = .empty ∧ s.lnk.inbound = []

/-- The part is RUNNING and takes an arriving message at once (R174, R175). -/
abbrev Ready (s : State) : Prop := s.phase = .running ∧ s.lnk.slot = .empty ∧ s.lnk.inbound = []

/-- The state with the reply slot PENDING for a request of this kind and tag (R177). -/
def asked (kind tag : Byte) (s : State) : State := s.modLnk fun l => { l with slot := .pending kind tag }

/-- What is left when a request of this kind and tag is answered in state `s`: the reply frame in the slot (R178), and
the arbiter's decision (R183). -/
def answered (kind tag : Byte) (status : Status) (fields : List Byte) (s : State) : State :=
  arbitrate (s.modLnk fun l => { l with slot := .full ⟨kind + 0x80, tag, status.code :: fields⟩ })

/-- The bytes arrive at the frame receiver one after another, each a RECEIVED_BYTE. -/
def feed : List Byte → State → Host.Outcome State Fault Refusal
  | [], s => .next s
  | b :: bs, s =>
    match exec (.receivedByte b) s with
    | .next t => feed bs t
    | .fault r => .fault r
    | .refused r => .refused r

/-- The command of a moment of the link. -/
def momentCommand : LinkMoment → Instr
  | .byteReceived b => .receivedByte b
  | .frameSent => .frameSent

/-- No background pass runs (R93), so that no voice is taken into TUNING at the end of an event. -/
abbrev NoPass (s : State) : Prop := s.tun.passList = []

/-! ### What an event does to voices (Sections 1 and 2), as the statements spell it -/

/-- A KEY_DOWN or KEY_UP on this channel with note n reaches part p (R8). -/
abbrev Reaches (s : State) (channel : Byte) (n : Note) (p : PartId) : Prop :=
  (s.part p).channel.map (·.val) = some channel.toNat ∧ (s.part p).lowKey ≤ n ∧ n ≤ (s.part p).highKey

/-- Part p is the only part a key message reaches. -/
abbrev ReachesOnly (s : State) (channel : Byte) (n : Note) (p : PartId) : Prop :=
  ∀ q : PartId, Reaches s channel n q ↔ q = p

/-- The part is engaged (R49). -/
abbrev PartEngaged (s : State) (p : PartId) : Prop :=
  (∃ v : VoiceId, (s.voice v).part = some p ∧ ((s.voice v).state = .gated ∨ (s.voice v).state = .retrigger ∨
    ((s.voice v).state = .quenching ∧ (s.voice v).pendingNote ≠ none))) ∨ (s.part p).start ≠ none

/-- `u`, which the handling of an event in the parts `reached` leaves of `s`, with a PART_SILENT offered in ascending order
for each of them that was engaged and no longer is (R49). -/
def withSilence (s : State) (reached : PartId → Bool) (u : State) : State :=
  (allParts.filter fun p => reached p && decide (PartEngaged s p ∧ ¬ PartEngaged u p)).foldl
    (fun t p => offerNotice (.partSilent p) t) u

/-- The held list of part p as a KEY_DOWN or a KEY_UP of note n leaves it (R21). -/
def keyed (p : PartId) (n : Note) (down : Bool) (s : State) : State :=
  s.modPart p fun y =>
    let others := y.held.filter (· ≠ n)
    { y with held := if down then
        if n ∈ y.held ∨ y.held.length < 16 then others ++ [n] else y.held.tail ++ [n]
      else others }

/-- No voice of part p's pool is under a background tune, so that none can yield (R27). -/
abbrev NoYield (s : State) (p : PartId) : Prop :=
  ∀ b : VoiceId, s.tun.background = some b → (s.voice b).part ≠ some p

/-- A free voice of part p given a note (R22, R26): a RELEASED one quenches first with TAIL_QUENCH 1, any other sounds at
once, and both leave the free list for the active list tail. -/
def given (p : PartId) (v : VoiceId) (n : Note) (velocity : Velocity) (s : State) : State :=
  let x := s.voice v
  let listed := fun t : State => t.modPart p fun y => { y with free := y.free.filter (· ≠ v), active := y.active ++ [v] }
  if x.state = .released ∧ s.vas.tailQuench = 1 then
    listed ((s.modVoice v fun _ =>
      { x with state := .quenching, keyHeld := false, sustained := false, pendingNote := some ⟨n, velocity, false⟩,
               releaseHold := none, quench := some (s.param p pQuenchTime), gap := none }).setGate v false)
  else
    glideStart v (listed ((s.modVoice v fun _ =>
      { x with state := .gated, sound := some (n, velocity), lastPlayed := some n, keyHeld := true, sustained := false,
               pendingNote := none, releaseHold := none, quench := none, gap := none,
               unisonIndex := if s.param p pVoiceMode = 2 then x.unisonIndex else 0 }).setGate v true))

/-- A voice of part p released (R23): RELEASED at the free list tail, its release hold timer started from AMP_RELEASE
(R3). -/
def freed (p : PartId) (v : VoiceId) (s : State) : State :=
  ((s.modVoice v fun x =>
    { x with state := .released, keyHeld := false, sustained := false, pendingNote := none,
             releaseHold := some (20 + 10 * s.param p pAmpRelease), quench := none, gap := none }).setGate v false).modPart
    p fun y => { y with active := y.active.filter (· ≠ v), free := y.free ++ [v] }

/-- The voice sounds: GATED or RETRIGGER. -/
abbrev Sounds (x : Voice) : Prop := x.state = .gated ∨ x.state = .retrigger

/-- A voice of part p let go as its held list empties (R37): held by the pedal, or released; a pending note is marked, or
removed. -/
def unheld (p : PartId) (s : State) (v : VoiceId) : State :=
  let pedal := (s.part p).pedal
  if Sounds (s.voice v) then
    if pedal then s.modVoice v fun x => { x with keyHeld := false, sustained := true } else freed p v s
  else if (s.voice v).state = .quenching then
    s.modVoice v fun x =>
      { x with pendingNote := if pedal then x.pendingNote.map fun n => { n with sustained := true } else none }
  else s

/-- A voice of part p that the pedal held, let go by a pedal up (R33). -/
def unsustained (p : PartId) (s : State) (v : VoiceId) : State :=
  if Sounds (s.voice v) ∧ (s.voice v).sustained = true then freed p v s
  else if (s.voice v).state = .quenching ∧ (s.voice v).pendingNote.any (·.sustained) = true then
    s.modVoice v fun x => { x with pendingNote := none }
  else s

/-- A voice that meets its part's priority note P (R36, R42). `struck` is the arriving key's velocity when P is its
note. -/
def served (p : PartId) (P : Note) (struck : Option Velocity) (s : State) (v : VoiceId) : State :=
  let x := s.voice v
  let struckOr := fun old : Option Velocity => struck.getD (old.getD 64)
  if Sounds x then
    if x.sound.map (·.1) = some P ∧ struck = none then s.modVoice v fun _ => { x with keyHeld := true, sustained := false }
    else
      let y := { x with sound := some (P, struckOr (x.sound.map (·.2))), lastPlayed := some P, keyHeld := true,
                        sustained := false }
      if x.state = .gated ∧ s.param p pLegato ≠ 1 then
        glideStart v ((s.modVoice v fun _ => { y with state := .retrigger, gap := some s.vas.gateGap }).setGate v false)
      else glideStart v (s.modVoice v fun _ => y)
  else if x.state = .quenching then
    s.modVoice v fun _ =>
      { x with keyHeld := true, sustained := false,
               pendingNote := some ⟨P, struckOr (x.pendingNote.map (·.velocity)), false⟩ }
  else s

/-- The voices of a list numbered 0 upward as members of a unison stack (R38). -/
def numbered (l : List VoiceId) (s : State) : State :=
  s.modVas fun a =>
    { a with voices := Vector.ofFn fun v =>
        if v ∈ l then { s.voice v with unisonIndex := l.idxOf v } else s.voice v }

/-- A free voice of part p made a member of a start record under TAIL_QUENCH 1 (R39): a RELEASED one quenches with no note
to take, any other waits, and both leave the free list for the active list tail. -/
def joins (p : PartId) (s : State) (v : VoiceId) : State :=
  let x := { s.voice v with keyHeld := false, sustained := false, pendingNote := none, releaseHold := none, gap := none }
  ((s.modVoice v fun _ =>
    if x.state = .released then { x with state := .quenching, quench := some (s.param p pQuenchTime) }
    else { x with state := .waiting, quench := none }).setGate v false).modPart p fun y =>
      { y with free := y.free.filter (· ≠ v), active := y.active ++ [v] }

/-- The start record of part p with members r cancelled (R40): a WAITING member becomes IDLE at the free list tail, in
member index order, and a QUENCHING one keeps no pending note. -/
def cancelled (p : PartId) (r : List VoiceId) (s : State) : State :=
  let idle := r.filter fun v => decide ((s.voice v).part = some p ∧ (s.voice v).state = .waiting)
  let s' := s.modVas fun a =>
    { a with voices := Vector.ofFn fun v =>
        let x := s.voice v
        if v ∈ idle then
          { x with state := .idle, keyHeld := false, sustained := false, pendingNote := none, releaseHold := none,
                   quench := none, gap := none }
        else if v ∈ r ∧ x.part = some p ∧ x.state = .quenching then { x with pendingNote := none } else x }
  (s'.modCvo fun c => { c with gates := Vector.ofFn fun v => if v ∈ idle then false else c.gates[v] }).modPart p fun y =>
    { y with start := none, active := y.active.filter (· ∉ idle), free := y.free ++ idle }

/-- Voice v out of service in state `st`, TUNING or DISABLED (R13, R85): on no list of its part, its timers stopped, its
gate low, its glided pitch invalid and its held spread 0; Part, Note, Velocity and Last-played note stay. -/
def outOfService (st : VoiceState) (v : VoiceId) (s : State) : State :=
  { s with
    vas := { s.vas with
      voices := upd s.vas.voices v fun x =>
        { x with state := st, keyHeld := false, sustained := false, pendingNote := none, releaseHold := none,
                 quench := none, gap := none },
      parts := Vector.ofFn fun p =>
        if (s.voice v).part = some p then
          { s.part p with free := (s.part p).free.filter (· ≠ v), active := (s.part p).active.filter (· ≠ v) }
        else s.part p },
    cvo := { s.cvo with
      gates := upd s.cvo.gates v fun _ => false, glide := upd s.cvo.glide v fun _ => none,
      glideRate := upd s.cvo.glideRate v fun _ => none, spread := upd s.cvo.spread v fun _ => 0 } }

/-- `u`, in which voice v of `s` has gone out of service, with what its part does when it was active (R48): a start record
that v belongs to is cancelled (R40), and without a record the stack of a UNISON part is renumbered (R42). -/
def withoutMember (s : State) (v : VoiceId) (u : State) : State :=
  match (s.voice v).part with
  | none => u
  | some p =>
    if isActive (s.voice v).state = false then u
    else match (u.part p).start with
      | some r => if v ∈ r.members then cancelled p r.members u else u
      | none => if u.param p pVoiceMode = 2 then numbered (stackMembers u p) u else u

/-- No active list and no start record names a voice twice. -/
abbrev NamedOnce (s : State) : Prop :=
  ∀ p : PartId, (s.part p).active.Nodup ∧ ∀ r, (s.part p).start = some r → r.members.Nodup

/-- The voice that a note takes from the free list (R26): with SAME_NOTE REUSE the RELEASED voice nearest the head whose
Last-played note it is, if there is one, and otherwise the head. -/
def choice (s : State) (p : PartId) (n : Note) : Option VoiceId :=
  let again := (s.part p).free.find? fun v =>
    decide (s.param p pSameNote = 1 ∧ (s.voice v).state = .released ∧ (s.voice v).lastPlayed = some n)
  again.or (s.part p).free.head?

/-! ### The ends of tunes (Section 4), as the statements spell them -/

/-- A channel that starts the search of oscillator o from its table in force (R74). -/
def searching (s : State) (o : OscId) (x : Channel) : Channel :=
  { x with state := .settle, osc := some o, breakpoint := 1, measurements := 0,
           code := (clampInt 0 65535 (6144 + s.tun.tables[o][1])).toNat, candidates := Vector.replicate 9 none,
           settleTimer := some s.tun.settleTime, edgeTimer := none, countTimer := none }

/-- A channel that has released its oscillator: IDLE, its timers stopped, its candidates discarded (R77, R80, R82; log 21
for the fields that stay). -/
def unheldChannel (x : Channel) : Channel :=
  { x with state := .idle, osc := none, settleTimer := none, edgeTimer := none, countTimer := none,
           candidates := Vector.replicate 9 none }

/-- The channels with those that hold an oscillator of voice v stopped (R77). -/
def stopped (v : VoiceId) (s : State) : Vector Channel 4 :=
  Vector.ofFn fun c =>
    let x := s.tun.channels[c]
    if x.osc = some (oscA v) ∨ x.osc = some (oscB v) then unheldChannel x else x

/-- The background pass has taken voice v (R94, R95): TUNING and off its list, its oscillators in search on channels 0 and
1. -/
def passTakes (v : VoiceId) (s : State) : State :=
  (outOfService .tuning v s).modTun fun u =>
    { u with background := some v, backgroundA := none, backgroundB := none,
             channels := upd (upd u.channels 0 (searching s (oscA v))) 1 (searching s (oscB v)) }

/-- In `t` the tune of voice v, whose entry in the job j of `s` is e, has ended with the results a and b, and the channels
as given (R86, R87, R89, R90). `told` is `t` as the notice TUNE_VOICE_DONE left it. With every other entry DONE the job
ends: TUNE_DONE(COMPLETE) follows, the job is removed and the interval timer starts. Otherwise the entry is DONE, and the
pair it frees goes to the lowest QUEUED voice, if there is one. -/
abbrev EntryEnds (v : VoiceId) (a b : OscResult) (e : JobEntry) (j : TuneJob) (channels : Vector Channel 4)
    (s t told : State) : Prop :=
  let others := j.entries.filter fun x => x.voice ≠ v
  let closed := fun x : JobEntry =>
    if x.voice = v then { x with status := .done, pair := none, resultA := some a, resultB := some b } else x
  ((∀ x ∈ others, x.status = .done) → t = offerNotice (.tuneDone false j.tag) told ∧ t.tun.job = none ∧
    t.tun.channels = channels ∧
    t.tun.intervalTimer = if s.tun.interval = 0 then s.tun.intervalTimer else some (s.tun.interval * 60000)) ∧
  ((∃ x ∈ others, x.status ≠ .done) → t = told ∧ t.tun.intervalTimer = s.tun.intervalTimer ∧
    ((∀ x ∈ others, x.status ≠ .queued) →
      t.tun.job = some ⟨j.tag, j.entries.map closed⟩ ∧ t.tun.channels = channels) ∧
    ∀ g, (others.find? fun x => decide (x.status = .queued)) = some g → ∀ k, e.pair = some k →
      (j.entries.map (·.voice)).Nodup → (∀ x ∈ others, x.status = .measuring → x.pair ≠ some k) →
      (∀ m : Fin 2, m ≠ k → ∃ x ∈ others, x.status = .measuring ∧ x.pair = some m) →
      t.tun.job = some ⟨j.tag, j.entries.map fun x =>
        if x.voice = g.voice then { x with status := .measuring, pair := some k } else closed x⟩ ∧
      t.tun.channels = Vector.ofFn fun c =>
        if c.val = 2 * k.val then searching s (oscA g.voice) channels[c]
        else if c.val = 2 * k.val + 1 then searching s (oscB g.voice) channels[c] else channels[c])

/-! ### Invariants -/

/-- ALERT is asserted exactly as R194 says. -/
abbrev AlertFollowsFlags (s : State) : Prop := s.stu.alert = alertLevel s.stu

/-- Gate line v is high exactly while voice v is GATED (R2, R69). -/
abbrev GatesFollowVoices (s : State) : Prop :=
  ∀ v : VoiceId, s.cvo.gates[v] = decide ((s.voice v).state = .gated)

/-- The link's queues stay within their bounds (R173, R181, R182). -/
abbrev QueuesBounded (s : State) : Prop :=
  s.lnk.inbound.length ≤ 8 ∧ s.lnk.notices.length ≤ 24 ∧ (s.lnk.reports.map (·.control)).Nodup

/-- Every live parameter lies within its range (R121). -/
abbrev ParamsInRange (s : State) : Prop :=
  ∀ (p : PartId) (i : ParamId), paramTable[i].min ≤ s.param p i ∧ s.param p i ≤ paramTable[i].max

/-- The page store is in its canonical form. -/
abbrev StoreCanonical (s : State) : Prop := s.pmc.memory.wf

/-- Every held list has at most sixteen notes, none twice (R4, R21). -/
abbrev HeldListsBounded (s : State) : Prop :=
  ∀ p : PartId, (s.part p).held.length ≤ 16 ∧ (s.part p).held.Nodup

/-- A voice record is coherent: each timer runs exactly in its state (R2, R3), a pending note stands only in QUENCHING
(R1), and key_held and sustained only while the voice is active (R1). -/
abbrev Voice.Coherent (x : Voice) : Prop :=
  (x.releaseHold.isSome = decide (x.state = .released)) ∧
  (x.quench.isSome = decide (x.state = .quenching)) ∧
  (x.gap.isSome = decide (x.state = .retrigger)) ∧
  (x.pendingNote.isSome = true → x.state = .quenching) ∧
  ((x.keyHeld || x.sustained) = true → isActive x.state = true)

/-- Every voice record is coherent. -/
abbrev VoicesCoherent (s : State) : Prop := ∀ v : VoiceId, (s.voice v).Coherent

/-- A correction lies within the range of R72. -/
abbrev InCorrectionRange (c : Int) : Prop := -4096 ≤ c ∧ c ≤ 4095

/-- A measurement channel is coherent (R73 to R76, R78): it holds an oscillator exactly outside IDLE, each timer runs
exactly in its state, and its fields keep their ranges. -/
abbrev Channel.Coherent (x : Channel) : Prop :=
  (x.osc.isSome = decide (x.state ≠ .idle)) ∧
  (x.settleTimer.isSome = decide (x.state = .settle)) ∧
  (x.edgeTimer.isSome = decide (x.state = .arm)) ∧
  (x.countTimer.isSome = decide (x.state = .count)) ∧
  1 ≤ x.breakpoint ∧ x.breakpoint ≤ 9 ∧ x.measurements ≤ 8 ∧ x.code ≤ 65535 ∧
  (x.state ≠ .idle → x.measurements ≤ 7 ∧ InCorrectionRange ((x.code : Int) - 6144 * x.breakpoint)) ∧
  (∀ b : Fin 9, ∀ c ∈ x.candidates[b], InCorrectionRange c)

/-- The tuning tables stay within their range (R72) and the channels are coherent. -/
abbrev TuningCoherent (s : State) : Prop :=
  (∀ (o : OscId) (b : Fin 12), InCorrectionRange s.tun.tables[o][b]) ∧ ∀ c : MeasId, (s.tun.channels[c]).Coherent

/-- The lists agree with the voices (R5, R6, R7): part p's free list holds its IDLE and RELEASED voices and its active list
its GATED, RETRIGGER, QUENCHING and WAITING ones, each once, and no list holds any other voice. A voice of no part is not
active. -/
abbrev ListsFollowVoices (s : State) : Prop :=
  (∀ (p : PartId) (v : VoiceId),
    (v ∈ (s.part p).free ↔ (s.voice v).part = some p ∧ ((s.voice v).state = .idle ∨ (s.voice v).state = .released)) ∧
    (v ∈ (s.part p).active ↔ (s.voice v).part = some p ∧ isActive (s.voice v).state = true)) ∧
  (∀ p : PartId, (s.part p).free.Nodup ∧ (s.part p).active.Nodup) ∧
  ∀ v : VoiceId, (s.voice v).part = none →
    (s.voice v).state = .idle ∨ (s.voice v).state = .tuning ∨ (s.voice v).state = .disabled

/-- A start record stands in a UNISON part only, its members QUENCHING or WAITING voices of the part (R39); no QUENCHING
voice of a UNISON part has a pending note. -/
abbrev RecordsCoherent (s : State) : Prop :=
  (∀ (p : PartId), ∀ r ∈ (s.part p).start, s.param p pVoiceMode = 2 ∧ ∀ v ∈ r.members,
    (s.voice v).part = some p ∧ ((s.voice v).state = .quenching ∨ (s.voice v).state = .waiting)) ∧
  ∀ (p : PartId) (v : VoiceId), s.param p pVoiceMode = 2 → (s.voice v).part = some p → (s.voice v).state = .quenching →
    (s.voice v).pendingNote = none

/-- No oscillator is held by two channels (R71, R86). -/
abbrev ChannelsApart (s : State) : Prop :=
  ∀ c d : MeasId, s.tun.channels[c].osc ≠ none → s.tun.channels[c].osc = s.tun.channels[d].osc → c = d

/-- The entries of the tune job; none without a job. -/
def jobEntries (s : State) : List JobEntry :=
  match s.tun.job with
  | some j => j.entries
  | none => []

/-- A tune holds what it measures (R73, R83, R86, R93): a held oscillator has no verdict yet and belongs to a TUNING voice,
the background voice or a MEASURING one of the job; a voice of the job that is not DONE is TUNING, each voice has one
entry, and a QUEUED one no verdict; the background voice is TUNING and on the pass list; a job, a pass and a running
interval timer exclude each other. -/
abbrev TunesCoherent (s : State) : Prop :=
  ChannelsApart s ∧
  (∀ (c : MeasId) (o : OscId), s.tun.channels[c].osc = some o →
    (s.voice (voiceOfOsc o)).state = .tuning ∧
    ((s.tun.background = some (voiceOfOsc o) ∧
        (if o.val % 2 = 0 then s.tun.backgroundA else s.tun.backgroundB) = none) ∨
      ∃ e ∈ jobEntries s, e.voice = voiceOfOsc o ∧ e.status = .measuring ∧
        (if o.val % 2 = 0 then e.resultA else e.resultB) = none)) ∧
  (∀ b : VoiceId, s.tun.background = some b → (s.voice b).state = .tuning ∧ b ∈ s.tun.passList) ∧
  ((jobEntries s).map (·.voice)).Nodup ∧
  (∀ e ∈ jobEntries s, (e.status ≠ .done → (s.voice e.voice).state = .tuning) ∧
    (e.status = .queued → e.resultA = none ∧ e.resultB = none)) ∧
  (s.tun.job ≠ none → s.tun.passList = []) ∧
  (s.tun.job ≠ none ∨ s.tun.passList ≠ [] → s.tun.intervalTimer = none)

/-- Before READY nothing plays or is tuned (R210, R214). -/
abbrev QuietBeforeReady (s : State) : Prop :=
  s.phase ≠ .running →
    (∀ v : VoiceId, (s.voice v).state = .idle ∨ (s.voice v).state = .disabled) ∧
    (∀ p : PartId, (s.part p).start = none) ∧ (∀ c : MeasId, s.tun.channels[c].osc = none) ∧
    s.tun.job = none ∧ s.tun.background = none ∧ s.tun.passList = [] ∧ s.tun.intervalTimer = none

/-- The voices, the lists, the start records and the tunes agree with each other: what R7 needs of the others to last. -/
abbrev Orderly (s : State) : Prop :=
  VoicesCoherent s ∧ ListsFollowVoices s ∧ RecordsCoherent s ∧ TunesCoherent s ∧ QuietBeforeReady s

end Sys2Proof.Machine
end

