-- ==== Sys2Proof/Certificates/Slice0/Obligations.lean ====
section
/-!
DEFINITION. The statements for the provers. A comment above a group names the part of the manual it is about; where a
statement rests on a choice of the model, its docstring names the log entry. Two choices stand in most of them: `arbitrate`
at the end of an event that is no request is log 5, and `settlePass` there is log 7.
-/

open Sys2Proof Sys2Proof.Machine

/-! ### The queue of commands and the link (Sections 8 and 10) -/

/-- A step carries out the command at the front of the queue over the state with the queue's rest; on an empty queue the
part idles (the model's choice, log 2). -/
def Obligations.StepRunsFrontCommand : Prop :=
  (∀ (c : Instr) (rest : List Instr) (s : State),
    step { s with pending := c :: rest } = exec c { s with pending := rest }) ∧
  (∀ s : State, s.pending = [] → step s = .next s)

/-- R205 and R206, both ways: the frame of every well-formed message fits and is read back as that message, whatever its
fields; a frame read as a message is that message's frame, but for the TAG of a performance message, which is not used
(R176). -/
def Obligations.FramesSpellMessages : Prop :=
  (∀ (i : Instr) (f : Frame), i.wellFormed = true → frameOf i = some f →
    f.payload.length ≤ 32 ∧
    frameMeaning f = (if isUnknownKind f.kind then FrameMeaning.unknownKind else FrameMeaning.message i)) ∧
  (∀ (i : Instr) (f : Frame), frameMeaning f = .message i →
    frameOf i = some (if isPerformanceKind f.kind then { f with tag := 0 } else f))

/-- Feeding the bytes of a frame (R204) one by one to a receiver in HUNT (R169, R172) is the arrival of the frame, and so
the message command of that frame: that a message command stands for the whole frame is the model's choice (log 1). The
premise `arbitrate s = s` says that nothing waits for an idle transmitter (R183). -/
def Obligations.BytesDeliverTheFrame : Prop :=
  ∀ (f : Frame) (s : State), linkAwake s = true → s.lnk.rx = .hunt → s.lnk.gapTimer = none → arbitrate s = s →
    f.payload.length ≤ 32 →
    feed (frameBytes f) s = .next (arbitrate (offerFrame f s)) ∧
    ∀ i : Instr, frameOf i = some f → feed (frameBytes f) s = exec i s

/-- R169, row by row: what a received byte does in each state of the frame receiver, outside a reset. -/
def Obligations.ReceiverFollowsItsTable : Prop :=
  State.reset.lnk.rx = .hunt ∧
  ∀ (b : Byte) (s : State), linkAwake s = true →
    let go := fun (rx : RxState) =>
      Host.Outcome.next (arbitrate (s.modLnk fun l => { l with rx := rx, gapTimer := some 1 }))
    let hunting := s.modLnk fun l => { l with rx := .hunt, gapTimer := none }
    let discarded := Host.Outcome.next (arbitrate (countUp cFramesDiscarded (setFault fFrameCheck hunting)))
    (s.lnk.rx = .hunt → exec (.receivedByte b) s = if b = 0xD3 then go .len else .next (arbitrate s)) ∧
    (s.lnk.rx = .len → exec (.receivedByte b) s = if b.toNat ≤ 32 then go (.kind b) else discarded) ∧
    (∀ len, s.lnk.rx = .kind len → exec (.receivedByte b) s = go (.tag len b)) ∧
    (∀ len kind, s.lnk.rx = .tag len kind →
      exec (.receivedByte b) s = go (if len = 0 then .check len kind b [] else .payload len kind b [])) ∧
    (∀ len kind tag got, s.lnk.rx = .payload len kind tag got →
      exec (.receivedByte b) s =
        go (if got.length + 1 = len.toNat then .check len kind tag (got ++ [b]) else .payload len kind tag (got ++ [b]))) ∧
    (∀ len kind tag got, s.lnk.rx = .check len kind tag got →
      exec (.receivedByte b) s =
        if b = crc8 (len :: kind :: tag :: got) then .next (arbitrate (offerFrame ⟨kind, tag, got⟩ hunting))
        else discarded)

/-- R168, R170, R171, R172: a framing error or a byte gap expiry in a frame discards it, with FRAME_CHECK set and then
FRAMES_DISCARDED incremented; a break drops it uncounted; in HUNT a framing error is ignored. A gap timer that is stopped
has no expiry, which is the model's choice (log 4). While RESETn is asserted the line and every message leave the state
as it is (R210); that such commands are accepted without effect is the model's choice (log 31). -/
def Obligations.LineErrorsEndTheFrame : Prop :=
  ∀ s : State,
    let hunting := s.modLnk fun l => { l with rx := .hunt, gapTimer := none }
    (linkAwake s = true →
      exec .lineBreak s = .next (arbitrate hunting) ∧
      exec .framingError s = .next (arbitrate
        (if s.lnk.rx = .hunt then s else countUp cFramesDiscarded (setFault fFrameCheck hunting))) ∧
      (s.lnk.gapTimer.isSome = true →
        exec .byteGapExpiry s = .next (arbitrate (countUp cFramesDiscarded (setFault fFrameCheck hunting))))) ∧
    (s.lnk.gapTimer = none → exec .byteGapExpiry s = .next s) ∧
    (linkAwake s = false →
      exec .lineBreak s = .next s ∧ exec .framingError s = .next s ∧ exec .byteGapExpiry s = .next s ∧
      (∀ b, exec (.receivedByte b) s = .next s) ∧
      ∀ (i : Instr) (f : Frame), frameOf i = some f → exec i s = .next s)

/-- R173, R174: a message that arrives while the reply slot is occupied joins the tail of the inbound queue; with eight
frames queued it is discarded, INBOUND_OVERRUN is set and FRAMES_DISCARDED incremented. -/
def Obligations.MessagesWaitForTheReply : Prop :=
  ∀ (i : Instr) (f : Frame) (s : State), frameOf i = some f → f.payload.length ≤ 32 → linkAwake s = true →
    s.lnk.slot ≠ .empty →
    (s.lnk.inbound.length < 8 →
      exec i s = .next (arbitrate (s.modLnk fun l => { l with inbound := l.inbound ++ [f] }))) ∧
    (s.lnk.inbound.length = 8 →
      exec i s = .next (arbitrate (countUp cFramesDiscarded (setFault fInboundOverrun s))))

/-- R175, checks 1 to 4, at a listening link: before READY performance messages are discarded uncounted and every
request but IDENTIFY is refused NOT_READY; an unknown kind is refused BAD_KIND alone before and after READY, with the
reply KIND of R175, which is how UNKNOWN_KIND_FRAME completes. A frame of a known kind whose length differs from that of
its kind's messages is discarded and counted as a receiver discard when it is a performance message after READY, and
refused BAD_LENGTH when it is a request, before and after READY. The frame's arrival (`offerFrame`) is what the bytes of
BytesDeliverTheFrame bring. -/
def Obligations.DecoderRefusals : Prop :=
  ∀ (i : Instr) (f : Frame) (s : State), i.wellFormed = true → frameOf i = some f → Listening s →
    (s.phase = .loading → isPerformanceKind f.kind = true → exec i s = .next (arbitrate s)) ∧
    (isUnknownKind f.kind = true → exec i s = .next (arbitrate (s.modLnk fun l =>
      { l with slot := .full ⟨if f.kind.toNat < 0x80 then f.kind + 0x80 else f.kind, f.tag, [1]⟩ }))) ∧
    (s.phase = .loading → isPerformanceKind f.kind = false → isUnknownKind f.kind = false → f.kind ≠ 0x10 →
      exec i s = .next (answered f.kind f.tag .notReady [] s)) ∧
    ∀ g : Frame, isUnknownKind f.kind = false → g.kind = f.kind → g.payload.length ≠ f.payload.length →
      (isPerformanceKind g.kind = true → s.phase = .loading → offerFrame g s = s) ∧
      (isPerformanceKind g.kind = true → s.phase = .running →
        offerFrame g s = countUp cFramesDiscarded (setFault fFrameCheck s)) ∧
      (isPerformanceKind g.kind = false →
        offerFrame g s = s.modLnk fun l => { l with slot := .full ⟨g.kind + 0x80, g.tag, [2]⟩ })

/-- R190: what a request to set a flag does, for a real and for a forced failure. The notice queue has room; the two
outcomes of a full queue are those of R181. -/
def Obligations.FaultFlagsSetOnce : Prop :=
  ∀ (f : FlagId) (s : State),
    let flags := fun x : Flag => upd s.stu.flags f fun _ => x
    let become := fun (x : Flag) => s.modStu fun u =>
      { u with flags := flags x, alert := alertLevel { u with flags := flags x } }
    let offer := fun (forced : Bool) (t : State) => t.modLnk fun l =>
      { l with notices := l.notices ++ [(l.seq, .fault f forced)], seq := l.seq + 1 }
    (setFault f s).stu.flags[f] = ⟨true, false⟩ ∧
    (s.stu.flags[f].isSet = true →
      setFault f s = s.modStu (fun u => { u with flags := flags ⟨true, false⟩ }) ∧ forceFault f s = s) ∧
    (s.stu.flags[f].isSet = false → s.lnk.notices.length < 24 →
      setFault f s = offer false (become ⟨true, false⟩) ∧ forceFault f s = offer true (become ⟨true, true⟩))

/-- R200, R201: an increment adds one, 65535 going to 0, and offers COUNTER_HIGH exactly at the step from 49151 to 49152;
nothing else changes. -/
def Obligations.CountersStepByOne : Prop :=
  ∀ (c : CounterId) (s : State),
    let stepped := s.modStu fun u => { u with counters := upd u.counters c (· + 1) }
    (s.stu.counters[c] ≠ 49151 → countUp c s = stepped) ∧
    (s.stu.counters[c] = 49151 →
      countUp c s = offerNotice (.counterHigh c) stepped)

/-- R180, R181 and 9.9: a masked notice is dropped; a notice takes the next number and joins the queue's tail; at a full
queue it is lost, which counts in NOTICES_LOST, sets NOTICE_LOST, and loses the FAULT and the COUNTER_HIGH that this may
offer, each counted and numbered. -/
def Obligations.NoticesAreNumberedOrLost : Prop :=
  ∀ (n : Notice) (s : State),
    let lost := s.stu.counters[cNoticesLost]
    let base : Nat := if s.stu.flags[fNoticeLost].isSet then 1 else 2
    let high : Nat :=
      if disabled s.stu (.counterHigh cNoticesLost) = false ∧ (lost = 49151 ∨ (base = 2 ∧ lost = 49150)) then 1 else 0
    let t := offerNotice n s
    (disabled s.stu n = true → t = s) ∧
    (disabled s.stu n = false → s.lnk.notices.length < 24 →
      t = s.modLnk fun l => { l with notices := l.notices ++ [(l.seq, n)], seq := l.seq + 1 }) ∧
    (disabled s.stu n = false → 24 ≤ s.lnk.notices.length →
      t.lnk = { s.lnk with seq := s.lnk.seq + BitVec.ofNat 8 (base + high) } ∧
      t.stu.counters = upd s.stu.counters cNoticesLost (· + BitVec.ofNat 16 (base + high)) ∧
      t.stu.flags = upd s.stu.flags fNoticeLost (fun _ => ⟨true, false⟩) ∧
      t = { s with lnk := t.lnk, stu := { s.stu with
        counters := t.stu.counters, flags := t.stu.flags, alert := t.stu.alert } })

/-- R183: at a decision a transmitter that sends is not interrupted, and an idle one takes the reply, else the head of
the notice queue, else the oldest control report, which takes its number then (R182). R184, R204, R207: the bytes of the
frame it sends are SYNC, LEN, KIND, TAG, the payload and the CRC-8 of the bytes between; those of a notice, the report of
CONTROL_MOVED among them, carry its kind, its sequence number as TAG, and its fields in the order and the codes of R207. -/
def Obligations.ArbiterOrder : Prop :=
  (let wire := fun (kind tag : Byte) (payload : List Byte) =>
    let checked := byte payload.length :: kind :: tag :: payload
    0xD3#8 :: (checked ++ [crc8 checked])
   let bit := fun b : Bool => if b then (1 : Byte) else 0
   let result := fun r : OscResult => match r with
    | .ok => (0 : Byte) | .noSignal => 1 | .outOfRange => 2 | .noConverge => 3 | .notDone => 4
   (∀ f : Frame, (Sending.reply f).bytes = wire f.kind f.tag f.payload) ∧
   ∀ (q : Byte) (n : Notice), (Sending.notice q n).bytes =
    match n with
    | .ready => wire 0x40 q []
    | .controlMoved r => wire 0x41 q ([byte r.control] ++ word r.value ++
        [match r.pickup with | .locked => 0 | .waitAbove => 1 | .waitBelow => 2, bit r.applied])
    | .switchChanged w pressed => wire 0x42 q [byte w, bit pressed]
    | .partSilent p => wire 0x43 q [byte p]
    | .recallDone p slot outcome tag => wire 0x44 q ([byte p] ++ word slot ++
        [match outcome with | .ok => 0 | .empty => 1 | .corrupt => 2 | .superseded => 3, tag])
    | .writeDone op target verifyFail tag => wire 0x45 q
        ([match op with | .store => 1 | .commit => 2 | .protect => 3 | .saveTuning => 4 | .wipe => 5] ++
          word (match target with | .nothing => 0 | .slot l => l.val | .bank b => b.val) ++ [bit verifyFail, tag])
    | .tuneVoiceDone v a b => wire 0x46 q [byte v, result a, result b]
    | .tuneDone aborted tag => wire 0x47 q [bit aborted, tag]
    | .counterHigh c => wire 0x48 q [byte c]
    | .fault f forced => wire 0x49 q [byte f, bit forced]) ∧
  ∀ s : State,
    (s.lnk.tx ≠ none → arbitrate s = s) ∧
    (s.lnk.tx = none →
      (∀ f, s.lnk.slot = .full f →
        arbitrate s = s.modLnk fun l => { l with slot := .sending, tx := some (.reply f) }) ∧
      ((∀ f, s.lnk.slot ≠ .full f) →
        (∀ q n rest, s.lnk.notices = (q, n) :: rest →
          arbitrate s = s.modLnk fun l => { l with notices := rest, tx := some (.notice q n) }) ∧
        (s.lnk.notices = [] → ∀ r rest, s.lnk.reports = r :: rest →
          arbitrate s = s.modLnk fun l =>
            { l with reports := rest, tx := some (.notice l.seq (.controlMoved r)), seq := l.seq + 1 }) ∧
        (s.lnk.notices = [] → s.lnk.reports = [] → arbitrate s = s)))

/-- FRAME_SENT (R178, R183): the end of a notice frees the transmitter, the end of a reply the reply slot too; the
decoder then serves the inbound queue (R174) and the arbiter decides. That the decoder comes first is the model's choice
(log 6), and so is that nothing changes when no frame is on the line (log 4). R174: with the slot EMPTY and frames waiting
the decoder takes the head frame and serves on over the rest, until the slot is no longer EMPTY or no frame waits. Taking
a frame is what its arrival brings at a listening link (R175): after READY a message of a known kind is carried out, a
request with the slot PENDING for its reply, and a performance message with the slot as it is. -/
def Obligations.FrameSentFreesItsSource : Prop :=
  ∀ s : State,
    (s.lnk.tx = none → exec .frameSent s = .next s) ∧
    (∀ q n, s.lnk.tx = some (.notice q n) →
      exec .frameSent s = .next (arbitrate (serveInbound (s.modLnk fun l => { l with tx := none })))) ∧
    (∀ f, s.lnk.tx = some (.reply f) → ¬ (f.kind = 0x91 ∧ f.payload = [0]) →
      exec .frameSent s = .next (arbitrate (serveInbound (s.modLnk fun l => { l with tx := none, slot := .empty })))) ∧
    (s.lnk.inbound = [] → serveInbound s = s) ∧ (s.lnk.slot ≠ .empty → serveInbound s = s) ∧
    (∀ f rest, s.lnk.slot = .empty → s.lnk.inbound = f :: rest →
      serveInbound s = serveInbound (takeFrame f (s.modLnk fun l => { l with inbound := rest })) ∧
      (takeFrame f (s.modLnk fun l => { l with inbound := rest })).lnk.inbound = rest) ∧
    ∀ f : Frame,
      (Listening s → offerFrame f s = takeFrame f s) ∧
      (isPerformanceKind f.kind = true → (takeFrame f s).lnk.slot = s.lnk.slot) ∧
      (isPerformanceKind f.kind = false → s.lnk.slot = .empty → (takeFrame f s).lnk.slot ≠ .empty) ∧
      ∀ i : Instr, s.phase = .running → frameMeaning f = .message i →
        takeFrame f s = perform i (if isPerformanceKind f.kind then s else asked f.kind f.tag s)

/-- R187: IDENTIFY is answered before and after READY with the codes and the readiness mark. R179, R165, R188, R215:
RESTART is answered OK after READY, and at the end of that reply it is accepted. With the write engine idle every block
takes its After reset values at that event, the page store is kept and the phase is LOADING; with an operation in flight
the reset waits, and that the decoder then serves before the arbiter decides is the model's choice (log 6). The recognition
of the RESTART by its reply is the model's (log 23), and an After reset value that the manual does not give is log 16. -/
def Obligations.IdentifyAndRestartAct : Prop :=
  ∀ (tag : Byte) (s : State),
    (Listening s → exec (.identify tag) s = .next (answered 0x10 tag .ok
      [0x45, 0x46, 0x16, 0x32, 1, 16, 4, if s.phase = .running then 1 else 0] s)) ∧
    (Ready s → exec (.restart tag) s = .next (answered 0x11 tag .ok [] s)) ∧
    (s.lnk.tx = some (.reply ⟨0x91, tag, [0]⟩) →
      (s.pmc.engine.operation = none →
        exec .frameSent s = .next { State.reset with
          phase := .loading, pmc := Pmc.reset s.pmc.memory, freeDraws := s.freeDraws, pending := s.pending }) ∧
      (s.pmc.engine.operation ≠ none →
        exec .frameSent s = .next (arbitrate (serveInbound { s with
          lnk := { s.lnk with tx := none, slot := .empty },
          pmc := { s.pmc with engine := { s.pmc.engine with resetWaiting := true } } }))))

/-- R185 with R55, R19, R102, R98, R92 and R131: each global setting is clamped, stored and answered; an item above 6 is
refused and changes nothing. A BACKGROUND_INTERVAL of 0 abandons a running pass, as BackgroundPassBegins says of
`abandonPass`. -/
def Obligations.SetGlobalClampsAndStores : Prop :=
  ∀ (tag item : Byte) (value : BitVec 16) (s : State), Ready s →
    let run := exec (.setGlobal tag item value) s
    let n := value.toNat
    let reply := fun (fields : List Byte) (t : State) => Host.Outcome.next (answered 0x12 tag .ok (item :: fields) t)
    (item = 0 → let x := clampInt (-512) 511 value.toInt
      run = reply (signedWord x) (s.modCvo fun c => { c with masterTune := x })) ∧
    (item = 1 → let x := clampNat 1 10 n; run = reply (word x) (s.modVas fun c => { c with gateGap := x })) ∧
    (item = 2 → let x := min n 1; run = reply (word x) (s.modVas fun c => { c with tailQuench := x })) ∧
    (item = 3 → let x := clampNat 2 16 n; run = reply (word x) (s.modPns fun c => { c with scanPeriod := x })) ∧
    (item = 4 → let x := clampNat 2 50 n; run = reply (word x) (s.modTun fun c => { c with settleTime := x })) ∧
    (item = 5 → let x := min n 60
      (s.tun.job.isSome = true → run = reply (word x) (s.modTun fun c => { c with interval := x })) ∧
      (s.tun.job = none → s.tun.passList = [] → run = reply (word x) (s.modTun fun c =>
        { c with interval := x, intervalTimer := if x = 0 then none else some (x * 60000) })) ∧
      (s.tun.job = none → s.tun.passList ≠ [] → x ≠ 0 → run = reply (word x) (s.modTun fun c =>
        { c with interval := x })) ∧
      (s.tun.job = none → s.tun.passList ≠ [] → x = 0 → run = reply (word x) (abandonPass
        ((asked 0x12 tag s).modTun fun c => { c with interval := x })))) ∧
    (item = 6 → let x := min n 3
      run = reply (word x) (resetPickups (fun b => b.target = .focus)
        (s.modPbu fun c => { c with focus := ⟨x, by omega⟩ }))) ∧
    (6 < item.toNat → run = .next (answered 0x12 tag .badValue [] s))

/-- R186: GET_GLOBAL reports the value stored, MASTER_TUNE signed, refuses an item above 6 and changes nothing. -/
def Obligations.GetGlobalReports : Prop :=
  ∀ (tag item : Byte) (s : State), Ready s →
    let run := exec (.getGlobal tag item) s
    let reply := fun (fields : List Byte) => Host.Outcome.next (answered 0x13 tag .ok (item :: fields) s)
    (item = 0 → run = reply (signedWord s.cvo.masterTune)) ∧ (item = 1 → run = reply (word s.vas.gateGap)) ∧
    (item = 2 → run = reply (word s.vas.tailQuench)) ∧ (item = 3 → run = reply (word s.pns.scanPeriod)) ∧
    (item = 4 → run = reply (word s.tun.settleTime)) ∧ (item = 5 → run = reply (word s.tun.interval)) ∧
    (item = 6 → run = reply (word s.pbu.focus)) ∧ (6 < item.toNat → run = .next (answered 0x13 tag .badValue [] s))

/-! ### Voices, parts and notes (Sections 1 and 2) -/

/-- R9: an accepted SET_ROUTE stores the route, each key clamped to 127 and the two swapped when low exceeds high, and
changes nothing else; a part above 3 or a channel neither 0-15 nor FFh is refused. -/
def Obligations.SetRouteStoresTheRoute : Prop :=
  ∀ (tag part channel low high : Byte) (s : State), Ready s →
    let run := exec (.setRoute tag part channel low high) s
    let a := clampNote low
    let b := clampNote high
    let lo := if b < a then b else a
    let hi := if b < a then a else b
    (∀ (p : PartId) (c : Option MidiChannel), part = byte p → channel = channelByte c →
      run = .next (answered 0x14 tag .ok [part, channel, byte lo, byte hi]
        (s.modPart p fun x => { x with channel := c, lowKey := lo, highKey := hi }))) ∧
    (3 < part.toNat ∨ (15 < channel.toNat ∧ channel ≠ 0xFF) → run = .next (answered 0x14 tag .badValue [] s))

/-- R10, R11, R12: SET_POOL checks its entries, refuses a move of a TUNING voice, and otherwise gives every voice its
entry as Part; a moved voice keeps its Note, Velocity and Last-played note, and its state follows the table of R11. The
parts' routes, held lists, pedals and bends stay. The last clause is the whole of the change, before a background pass takes
a voice at the end of the event (`settlePass`, R94, log 7): the records, timers and gates of the moved voices, the free lists
they join in ascending order and the lists they leave, then for each part that lost active voices the start record
cancelled or the running stack renumbered, then the PART_SILENT notices (R49). A voice whose entry equals its Part keeps
its record and its place but for these. `moved`, `kept` and the order of the parts are those of R11 and R12. -/
def Obligations.SetPoolMovesVoices : Prop :=
  ∀ (tag : Byte) (e : Vector Byte 16) (s : State), Ready s →
    let run := exec (.setPool tag e) s
    let legal := ∀ v : VoiceId, e[v].toNat ≤ 3 ∨ e[v] = 0xFF
    let blocked := ∃ v : VoiceId, e[v] ≠ partByte (s.voice v).part ∧ (s.voice v).state = .tuning
    (¬ legal → run = .next (answered 0x15 tag .badValue [] s)) ∧
    (legal → blocked → run = .next (answered 0x15 tag .busy [] s)) ∧
    (legal → ¬ blocked → ∃ t, run = .next (answered 0x15 tag .ok e.toList t) ∧
      (∀ v : VoiceId, partByte (t.voice v).part = e[v] ∧ (t.voice v).sound = (s.voice v).sound ∧
        (t.voice v).lastPlayed = (s.voice v).lastPlayed) ∧
      (∀ p : PartId, (t.part p).channel = (s.part p).channel ∧ (t.part p).lowKey = (s.part p).lowKey ∧
        (t.part p).highKey = (s.part p).highKey ∧ (t.part p).held = (s.part p).held ∧
        (t.part p).pedal = (s.part p).pedal ∧ (t.part p).bend = (s.part p).bend) ∧
      t.pbu = s.pbu ∧ t.pmc = s.pmc ∧ t.pns = s.pns ∧ t.tun.tables = s.tun.tables ∧
      (NoPass s → ∀ v : VoiceId, e[v] ≠ partByte (s.voice v).part →
        (t.voice v).keyHeld = false ∧ (t.voice v).sustained = false ∧
        (t.voice v).state =
          match (s.voice v).state with
          | .released => if e[v] = 0xFF then .idle else .released
          | .gated | .retrigger | .quenching | .waiting =>
            if e[v] = 0xFF ∨ (s.voice v).part = none then .idle else .released
          | .idle => .idle
          | .tuning => .tuning
          | .disabled => .disabled) ∧
      (NamedOnce s →
        let goes := fun v : VoiceId => decide (e[v] ≠ partByte (s.voice v).part)
        let target : VoiceId → Option PartId := fun v => if h : e[v].toNat < 4 then some ⟨e[v].toNat, h⟩ else none
        let moved : State := { s with
          vas := { s.vas with
            voices := Vector.ofFn fun v =>
              let x := s.voice v
              let y := { x with part := target v, keyHeld := false, sustained := false }
              let still := { y with pendingNote := none, releaseHold := none, quench := none, gap := none }
              if goes v = false then x
              else if isActive x.state then
                match x.part, target v with
                | some p, some _ =>
                  { still with state := .released, releaseHold := some (20 + 10 * s.param p pAmpRelease) }
                | _, _ => { still with state := .idle }
              else if x.state = .released ∧ target v = none then { still with state := .idle }
              else y,
            parts := Vector.ofFn fun p => { s.part p with
              free := ((s.part p).free.filter fun v => !(goes v && decide ((s.voice v).part = some p))) ++
                allVoices.filter fun v => goes v && decide (target v = some p ∧ (s.voice v).state ≠ .disabled),
              active := (s.part p).active.filter fun v => !(goes v && decide ((s.voice v).part = some p)) } },
          cvo := { s.cvo with
            gates := Vector.ofFn fun v =>
              let st := (s.voice v).state
              if goes v && (isActive st || decide (st = .released ∧ target v = none)) then false else s.cvo.gates[v] } }
        let kept := fun (u : State) (p : PartId) =>
          let lost := allVoices.filter fun v =>
            goes v && decide ((s.voice v).part = some p) && isActive (s.voice v).state
          if lost = [] then u
          else match (u.part p).start with
            | some r => if ∃ v ∈ lost, v ∈ r.members then cancelled p r.members u else u
            | none => if u.param p pVoiceMode = 2 then numbered (stackMembers u p) u else u
        run = .next (answered 0x15 tag .ok e.toList
          (settlePass s (withSilence s (fun _ => true) (allParts.foldl kept moved))))))

/-- R13, R14: SET_VOICE_ENABLE. Off disables the voice whatever its state but TUNING, on no list, its gate low and its
glided pitch invalid, with Part, Note, Velocity and Last-played note kept, and with the PART_SILENT notices of R49; on
makes a DISABLED voice IDLE at its part's free list tail; BAD_VALUE and BUSY change nothing. The last clause is the whole
of an accepted disable: the voice leaves its lists and any pass list (R93), its part's start record is cancelled or its
stack renumbered when it was a member (R12, R40, R42, R48), and nothing else changes but what a background pass then does
(`settlePass`, R93, R94, log 7). -/
def Obligations.SetVoiceEnableActs : Prop :=
  ∀ (tag voice enable : Byte) (s : State), Ready s →
    let run := exec (.setVoiceEnable tag voice enable) s
    let ok := fun t => Host.Outcome.next (answered 0x16 tag .ok [] t)
    (15 < voice.toNat ∨ 1 < enable.toNat → run = .next (answered 0x16 tag .badValue [] s)) ∧
    ∀ v : VoiceId, voice = byte v →
      (enable.toNat ≤ 1 → (s.voice v).state = .tuning → run = .next (answered 0x16 tag .busy [] s)) ∧
      (enable = 1 → (s.voice v).state ≠ .tuning → (s.voice v).state ≠ .disabled → run = ok s) ∧
      (enable = 0 → (s.voice v).state = .disabled → run = ok (settlePass s s)) ∧
      (enable = 1 → (s.voice v).state = .disabled → ∃ t, run = ok t ∧
        (t.voice v).state = .idle ∧ (∀ w, w ≠ v → t.voice w = s.voice w) ∧
        t = { s with vas := t.vas, cvo := { s.cvo with gates := upd s.cvo.gates v fun _ => false } } ∧
        ∀ p, t.part p = if (s.voice v).part = some p then { s.part p with free := (s.part p).free ++ [v] } else s.part p) ∧
      (enable = 0 → (s.voice v).state ≠ .tuning → (s.voice v).state ≠ .disabled → ∃ t, run = ok t ∧
        (t.voice v).state = .disabled ∧ (t.voice v).part = (s.voice v).part ∧ (t.voice v).sound = (s.voice v).sound ∧
        (t.voice v).lastPlayed = (s.voice v).lastPlayed ∧ (t.voice v).keyHeld = false ∧
        (t.voice v).sustained = false ∧ (t.voice v).pendingNote = none ∧ (t.voice v).releaseHold = none ∧
        (t.voice v).quench = none ∧ (t.voice v).gap = none ∧ t.cvo.gates[v] = false ∧ t.cvo.glide[v] = none ∧
        t.cvo.spread[v] = 0 ∧ (∀ p, (s.voice v).part = some p → v ∉ (t.part p).free ∧ v ∉ (t.part p).active) ∧
        (NoPass s → t = withSilence s (fun _ => true) { t with lnk := s.lnk, stu := s.stu }) ∧
        t.pbu = s.pbu ∧ t.pmc = s.pmc ∧ t.pns = s.pns ∧ t.tun.tables = s.tun.tables ∧
        (NamedOnce s → t = settlePass s (withSilence s (fun _ => true) (withoutMember s v
          ((outOfService .disabled v s).modTun fun u => { u with passList := u.passList.filter (· ≠ v) })))))

/-- R15, R16 and R17 with 10.3.1: GET_VOICE, GET_LISTS and GET_PART report the voice record, the lists in their order, and
the part record with the pool as a mask (voice v in bit v) and the unison start record or zeros. They refuse a value out
of range and change nothing. -/
def Obligations.QueriesReport : Prop :=
  ∀ (tag a b : Byte) (s : State), Ready s →
    (15 < a.toNat → exec (.getVoice tag a) s = .next (answered 0x17 tag .badValue [] s)) ∧
    (∀ v : VoiceId, a = byte v →
      let x := s.voice v
      let note := fun o : Option Note => byte (match o with | some n => n.val | none => 0)
      exec (.getVoice tag a) s = .next (answered 0x17 tag .ok
        [x.state.code, match x.part with | some p => byte p | none => 0xFF,
          byte (x.sound.isSome.toNat + 2 * x.keyHeld.toNat + 4 * x.sustained.toNat + 8 * x.pendingNote.isSome.toNat +
            16 * (match x.pendingNote with | some n => n.sustained.toNat | none => 0) + 32 * x.lastPlayed.isSome.toNat),
          byte (x.releaseHold.isSome.toNat + 2 * x.quench.isSome.toNat + 4 * x.gap.isSome.toNat),
          note (x.sound.map (·.1)), note (x.sound.map (·.2)),
          note (x.pendingNote.map (·.note)), note (x.pendingNote.map (·.velocity)),
          byte x.unisonIndex, note x.lastPlayed] s)) ∧
    (3 < a.toNat ∨ 2 < b.toNat → exec (.getLists tag a b) s = .next (answered 0x19 tag .badValue [] s)) ∧
    (∀ p : PartId, a = byte p →
      let run := exec (.getLists tag a b) s
      let x := s.part p
      (b = 0 → run = .next (answered 0x19 tag .ok (byte x.free.length :: x.free.map fun v => byte v.val) s)) ∧
      (b = 1 → run = .next (answered 0x19 tag .ok (byte x.active.length :: x.active.map fun v => byte v.val) s)) ∧
      (b = 2 → run = .next (answered 0x19 tag .ok (byte x.held.length :: x.held.map fun n => byte n.val) s))) ∧
    (3 < a.toNat → exec (.getPart tag a) s = .next (answered 0x18 tag .badValue [] s)) ∧
    (∀ p : PartId, a = byte p → ∃ pool : BitVec 16,
      (∀ v : VoiceId, pool.getLsbD v.val = decide ((s.voice v).part = some p)) ∧
      let x := s.part p
      exec (.getPart tag a) s = .next (answered 0x18 tag .ok
        ([match x.channel with | some c => byte c | none => 0xFF, byte x.lowKey, byte x.highKey,
            highByte pool, lowByte pool, byte x.free.length, byte x.active.length, byte x.held.length,
            if x.pedal then 1 else 0] ++ signedWord x.bend ++
          match x.start with
          | some r => [1, byte r.waiting, byte r.note, byte r.velocity, byte r.members.length]
          | none => [0, 0, 0, 0, 0]) s))

/-- KEY_DOWN and KEY_UP complete (R8, R20, R21): every part on the channel whose range holds the note updates its held
list; the routes, pedals and bends, the parameters, the panel, the page store and the tuning tables stay. Velocity 0 is a
KEY_UP; a note above 127 reaches no part. R49: a KEY_DOWN offers no PART_SILENT; a KEY_UP offers one, in ascending part
order, for each part it reaches that was engaged and no longer is, and changes nothing else of the link or the Status Unit
(with no background tune, whose yield counts). -/
def Obligations.KeysComplete : Prop :=
  ∀ (channel note velocity : Byte) (s : State), Ready s →
    let frame := fun t : State =>
      (127 < note.toNat → t = s) ∧
      (∀ p : PartId, (t.part p).channel = (s.part p).channel ∧ (t.part p).lowKey = (s.part p).lowKey ∧
        (t.part p).highKey = (s.part p).highKey ∧ (t.part p).pedal = (s.part p).pedal ∧
        (t.part p).bend = (s.part p).bend) ∧
      t.pbu = s.pbu ∧ t.pmc = s.pmc ∧ t.pns = s.pns ∧ t.phase = s.phase ∧ t.tun.tables = s.tun.tables ∧
      t.cvo.latched = s.cvo.latched ∧ t.cvo.masterTune = s.cvo.masterTune
    let reached := fun (n : Note) (p : PartId) =>
      (s.part p).channel.map (·.val) = some channel.toNat ∧ (s.part p).lowKey ≤ n ∧ n ≤ (s.part p).highKey
    (∃ t, exec (.keyDown channel note velocity) s = .next (arbitrate t) ∧ frame t ∧
      ∀ (n : Note) (p : PartId), note = byte n →
        let old := (s.part p).held
        let others := old.filter (· ≠ n)
        (t.part p).held =
          if reached n p then
            if velocity = 0 then others
            else if n ∈ old ∨ old.length < 16 then others ++ [n] else old.tail ++ [n]
          else old) ∧
    (velocity ≠ 0 → ∃ t, exec (.keyDown channel note velocity) s = .next (arbitrate t) ∧
      ∀ (q : Byte) (p : PartId), (q, .partSilent p) ∈ t.lnk.notices → (q, .partSilent p) ∈ s.lnk.notices) ∧
    exec (.keyDown channel note 0) s = exec (.keyUp channel note) s ∧
    (∃ t, exec (.keyUp channel note) s = .next (arbitrate t) ∧ frame t ∧
      (∀ (n : Note) (p : PartId), note = byte n →
        (t.part p).held = if reached n p then (s.part p).held.filter (· ≠ n) else (s.part p).held) ∧
      ∀ n : Note, note = byte n → NoPass s → s.tun.background = none → ListsFollowVoices s →
        t = withSilence s (fun p => decide (Reaches s channel n p)) { t with lnk := s.lnk, stu := s.stu })

/-- R22 to R27 and R30, in a POLY part that is the only one the key reaches. A new note takes the IDLE voice at the head of
the free list at once (spelled out first, with no background pass). A KEY_DOWN of a note that a voice sounds retriggers it
with REUSE, and with RELEASE_AND_NEW releases it and takes the free list head; one of a pending note replaces it; one of
any other note takes the voice of `choice`, which quenches first when it is RELEASED under TAIL_QUENCH 1 (`given`), and
is dropped when no voice is free, yields or can be stolen. A KEY_UP releases the voice that holds the note by its key, or
with the pedal down leaves it sustained; it removes or marks a pending note; else it changes the held list alone. A voice
that holds the note is here the only one that does, so that the choice of the first one (log 27) does not matter. A
background pass may take a voice at the end of the event (`settlePass`, R94, log 7). -/
def Obligations.PolyKeyTakesTheFreeVoice : Prop :=
  (∀ (channel : Byte) (n : Note) (velocity : Byte) (p : PartId) (v : VoiceId) (s : State), Ready s → NoPass s →
    velocity ≠ 0 →
    (∀ q : PartId, ((s.part q).channel.map (·.val) = some channel.toNat ∧ (s.part q).lowKey ≤ n ∧
      n ≤ (s.part q).highKey) ↔ q = p) →
    s.param p pVoiceMode = 0 →
    (∀ w ∈ (s.part p).active, Voice.heldNote (s.voice w) ≠ some n) →
    (s.part p).free.head? = some v → (s.voice v).state = .idle →
    (∀ w ∈ (s.part p).free, ¬ ((s.voice w).state = .released ∧ (s.voice w).lastPlayed = some n)) →
    ∃ t, exec (.keyDown channel (byte n) velocity) s = .next (arbitrate t) ∧
      t.voice v = { s.voice v with
        state := .gated, sound := some (n, clampVelocity velocity), lastPlayed := some n, keyHeld := true,
        sustained := false, pendingNote := none, unisonIndex := 0, releaseHold := none, quench := none, gap := none } ∧
      t.cvo.gates[v] = true ∧ (∀ w, w ≠ v → t.voice w = s.voice w ∧ t.cvo.gates[w] = s.cvo.gates[w]) ∧
      (t.part p).free = (s.part p).free.filter (· ≠ v) ∧ (t.part p).active = (s.part p).active ++ [v] ∧
      (∀ q, q ≠ p → t.part q = s.part q) ∧
      t.stu.counters[cKeysAccepted p] = s.stu.counters[cKeysAccepted p] + 1) ∧
  ∀ (channel : Byte) (n : Note) (velocity : Byte) (p : PartId) (s : State), Ready s → velocity ≠ 0 →
    ReachesOnly s channel n p → s.param p pVoiceMode = 0 →
    let active := (s.part p).active
    let free := (s.part p).free
    let w := clampVelocity velocity
    let pressed := keyed p n true s
    let lifted := keyed p n false s
    let down := exec (.keyDown channel (byte n) velocity) s
    let up := exec (.keyUp channel (byte n)) s
    let accepted := fun t : State =>
      (Host.Outcome.next (arbitrate (settlePass s (countUp (cKeysAccepted p) t))) : Host.Outcome State Fault Refusal)
    let ended := fun t : State =>
      (Host.Outcome.next (arbitrate (settlePass s (withSilence s (fun q => decide (q = p)) t))) :
        Host.Outcome State Fault Refusal)
    (∀ v ∈ active, (∀ u ∈ active, (s.voice u).heldNote = some n → u = v) →
      let x := s.voice v
      let put := fun (t : State) (y : Voice) => t.modVoice v fun _ => y
      (Sounds x → x.sound.map (·.1) = some n →
        (s.param p pSameNote = 1 → down = accepted
          (((put pressed { x with
              state := .retrigger, gap := if x.state = .gated then some s.vas.gateGap else x.gap, sound := some (n, w),
              keyHeld := true, sustained := false }).setGate v (if x.state = .gated then false else s.cvo.gates[v])).modPart
            p fun y => { y with active := y.active.filter (· ≠ v) ++ [v] })) ∧
        (s.param p pSameNote ≠ 1 → down = accepted (given p ((free ++ [v]).head (by simp)) n w (freed p v pressed))) ∧
        (x.keyHeld = false → up = .next (arbitrate (settlePass s lifted))) ∧
        (x.keyHeld = true → (s.part p).pedal = true → up = ended (put lifted { x with keyHeld := false, sustained := true })) ∧
        (x.keyHeld = true → (s.part p).pedal = false → up = ended (freed p v lifted))) ∧
      (x.state = .quenching → ∀ y, x.pendingNote = some y → y.note = n →
        down = accepted (put pressed { x with pendingNote := some ⟨n, w, false⟩ }) ∧
        ((s.part p).pedal = true → up = ended (put lifted { x with pendingNote := some { y with sustained := true } })) ∧
        ((s.part p).pedal = false → up = ended (put lifted { x with pendingNote := none })))) ∧
    ((∀ u ∈ active, (s.voice u).heldNote ≠ some n) →
      up = .next (arbitrate (settlePass s lifted)) ∧
      (∀ v, choice s p n = some v → down = accepted (given p v n w pressed)) ∧
      (free = [] → NoYield s p → stealVictim s p = none →
        down = .next (arbitrate (settlePass s (countUp (cKeysDropped p) pressed)))))

/-- R28: the tier of a voice as a steal victim, 4 for a voice that is none. -/
abbrev stealTier (x : Voice) : Nat :=
  match x.state with
  | .quenching => if x.pendingNote = none then 0 else 3
  | .gated | .retrigger => if x.sustained then 1 else 2
  | .idle | .released | .waiting | .tuning | .disabled => 4

/-- R28: a steal chooses from the first non-empty tier, the earliest of the active list, or under QUIETEST in tiers B and C
the lowest Velocity with ties to the earliest; there is no victim with STEAL_RULE NONE or with every tier empty. -/
def Obligations.StealVictimFollowsTiers : Prop :=
  ∀ (p : PartId) (s : State),
    let tier := fun v => stealTier (s.voice v)
    let velocity := fun v => match (s.voice v).sound with | some x => x.2.val | none => 0
    (stealVictim s p = none ↔ s.param p pStealRule = 2 ∨ ∀ v ∈ (s.part p).active, tier v = 4) ∧
    ∀ w, stealVictim s p = some w →
      ∃ before after, (s.part p).active = before ++ w :: after ∧ tier w < 4 ∧
        (∀ u ∈ (s.part p).active, tier w ≤ tier u) ∧
        (s.param p pStealRule = 1 → tier w = 1 ∨ tier w = 2 →
          (∀ u ∈ before, tier u = tier w → velocity w < velocity u) ∧
          ∀ u ∈ after, tier u = tier w → velocity w ≤ velocity u) ∧
        (¬ (s.param p pStealRule = 1 ∧ (tier w = 1 ∨ tier w = 2)) → ∀ u ∈ before, tier u ≠ tier w)

/-- R29: what a steal does to its victim, an active voice of part p of tier A to D; a new quench lasts QUENCH_TIME
(R3). R24, R28: a KEY_DOWN of a new note in a POLY part with no free voice and none to yield steals the victim, and counts
once in STEALS and once in KEYS_ACCEPTED. The key reaches that part alone, and a background pass may take a voice of another
part at the end of the event (`settlePass`, R94, log 7). -/
def Obligations.StealEffect : Prop :=
  (∀ (p : PartId) (v : VoiceId) (n : Note) (velocity : Velocity) (s : State), v ∈ (s.part p).active →
    let x := s.voice v
    let t := stealVoice p v n velocity s
    let next : Option PendingNote := some ⟨n, velocity, false⟩
    let tail := (s.part p).active.filter (· ≠ v) ++ [v]
    (stealTier x = 1 ∨ stealTier x = 2 →
      t.voice v = { x with state := .quenching, keyHeld := false, sustained := false, pendingNote := next,
                           releaseHold := none, quench := some (s.param p pQuenchTime), gap := none } ∧
      t.cvo.gates[v] = false ∧ (t.part p).active = tail) ∧
    (stealTier x = 0 → t.voice v = { x with pendingNote := next } ∧ (t.part p).active = tail) ∧
    (stealTier x = 3 → t.voice v = { x with pendingNote := next } ∧ (t.part p).active = (s.part p).active) ∧
    (∀ w, w ≠ v → t.voice w = s.voice w) ∧ (t.part p).free = (s.part p).free ∧ (t.part p).held = (s.part p).held) ∧
  ∀ (channel : Byte) (n : Note) (velocity : Byte) (p : PartId) (v : VoiceId) (s : State), Ready s →
    velocity ≠ 0 → ReachesOnly s channel n p → s.param p pVoiceMode = 0 →
    (∀ u ∈ (s.part p).active, (s.voice u).heldNote ≠ some n) → (s.part p).free = [] → NoYield s p →
    stealVictim s p = some v →
    exec (.keyDown channel (byte n) velocity) s = .next (arbitrate (settlePass s (countUp (cKeysAccepted p)
      (countUp (cSteals p) (stealVoice p v n (clampVelocity velocity) (keyed p n true s))))))

/-- R34: the priority note of a non-empty held list under LAST, LOW and HIGH. R35 to R42: what a KEY_DOWN and a KEY_UP do
in a MONO or UNISON part that is the only one they reach, before a background pass takes a voice at the end of the event
(`settlePass`, R94, log 7). A held list that empties lets go the
mono voice or the stack in member index order (`unheld`), or cancels the start record unless the pedal is down. Otherwise
the mono voice, or each sounding member of a running stack, meets the priority note P (`served`); a start record takes it
when it is new or re-struck; and a part with no voice obtains one, or starts a stack or its record, at a KEY_DOWN or a
change of P, or drops the key. KEYS_ACCEPTED or KEYS_DROPPED counts a KEY_DOWN (R24), and a KEY_UP has its PART_SILENT
decision (R49). That P changes is judged by the present NOTE_PRIORITY (log 17), and the velocity of a record whose note a
KEY_UP changes is 64 (log 18): the model's choices. -/
def Obligations.PriorityNoteFollowsTheRule : Prop :=
  (∀ held : List Note, held ≠ [] →
    (∃ rest n, held = rest ++ [n] ∧ priorityNote 0 held = some n) ∧
    (∃ n ∈ held, priorityNote 1 held = some n ∧ ∀ m ∈ held, n ≤ m) ∧
    (∃ n ∈ held, priorityNote 2 held = some n ∧ ∀ m ∈ held, m ≤ n)) ∧
  (∀ (p : PartId) (s : State), (stackMembers s p).Perm (s.part p).active ∧
    (stackMembers s p).Pairwise fun v w => (s.voice v).unisonIndex ≤ (s.voice w).unisonIndex) ∧
  ∀ (channel : Byte) (n : Note) (velocity : Byte) (down : Bool) (p : PartId) (s : State), Ready s →
    velocity ≠ 0 → ReachesOnly s channel n p → s.param p pVoiceMode ≠ 0 →
    let run := if down then exec (.keyDown channel (byte n) velocity) s else exec (.keyUp channel (byte n)) s
    let x := s.part p
    let u := keyed p n down s
    let rule := s.param p pNotePriority
    let ended := fun (taken : Bool) (t : State) => (Host.Outcome.next (arbitrate (settlePass s
      (if down then countUp (if taken then cKeysAccepted p else cKeysDropped p) t
       else withSilence s (fun q => decide (q = p)) t))) : Host.Outcome State Fault Refusal)
    let record := fun (r : StartRecord) (t : State) => t.modPart p fun y => { y with start := some r }
    ((u.part p).held = [] →
      (x.held = [] → run = ended true u) ∧
      (x.held ≠ [] → x.start = none → run = ended true ((stackMembers s p).foldl (unheld p) u)) ∧
      (x.held ≠ [] → ∀ r, x.start = some r → r.members.Nodup →
        run = ended true (if x.pedal then u else cancelled p r.members u))) ∧
    ∀ P : Note, priorityNote rule (u.part p).held = some P →
      let struck : Option Velocity := if down = true ∧ n = P then some (clampVelocity velocity) else none
      let w := struck.getD 64
      let changed := down = true ∨ priorityNote rule x.held ≠ some P
      (s.param p pVoiceMode ≠ 2 →
        (∀ v, x.active.head? = some v → run = ended true (served p P struck u v)) ∧
        (x.active = [] → ¬ changed → run = ended true u) ∧
        (x.active = [] → changed → ∀ v, choice s p P = some v → run = ended true (given p v P w u)) ∧
        (x.active = [] → changed → x.free = [] → NoYield s p → run = ended false u)) ∧
      (s.param p pVoiceMode = 2 →
        (∀ r, x.start = some r →
          (r.note = P → struck = none → run = ended true u) ∧
          (r.note ≠ P ∨ struck ≠ none → (∀ v ∈ x.active, ¬ Sounds (s.voice v) ∧ (s.voice v).pendingNote = none) →
            run = ended true (record { r with note := P, velocity := w } u))) ∧
        (x.start = none →
          let plays := ∃ v ∈ x.active, Sounds (s.voice v) ∨ (s.voice v).state = .waiting
          let chosen := x.free.take (s.param p pUnisonCount)
          let tails := (chosen.filter fun v => (s.voice v).state = .released).length
          (plays →
            run = ended true (((stackMembers s p).filter fun v => Sounds (s.voice v)).foldl (served p P struck) u)) ∧
          (¬ plays → ¬ changed → run = ended true u) ∧
          (changed → x.active ≠ [] → x.active.Nodup →
            (∀ v ∈ x.active, (s.voice v).state = .quenching ∧ (s.voice v).pendingNote = none) →
            run = ended true (record ⟨x.active, x.active.length, P, w⟩ (numbered x.active u))) ∧
          (changed → x.active = [] → chosen = [] → NoYield s p → run = ended false u) ∧
          (changed → x.active = [] → chosen ≠ [] → chosen.Nodup →
            (s.vas.tailQuench = 1 → tails ≠ 0 →
              run = ended true (record ⟨chosen, tails, P, w⟩ (chosen.foldl (joins p) (numbered chosen u)))) ∧
            (¬ (s.vas.tailQuench = 1 ∧ tails ≠ 0) →
              run = ended true (chosen.foldl (fun t v => given p v P w t) (numbered chosen u))))))

/-- R43: BEND stores its value, clamped to -8192..8191, as the Bend of every part on its channel, and changes nothing
else. -/
def Obligations.BendStoresClamped : Prop :=
  ∀ (channel : Byte) (value : BitVec 16) (s : State), Ready s →
    ∃ t, exec (.bend channel value) s = .next (arbitrate t) ∧
      (∀ p : PartId, t.part p =
        if (s.part p).channel.map (·.val) = some channel.toNat then
          { s.part p with bend := max (-8192) (min 8191 value.toInt) } else s.part p) ∧
      t = { s with vas := { s.vas with parts := t.vas.parts } }

/-- R33 (with R8): PEDAL sets the Pedal of every part on its channel; a pedal down does nothing more, and neither does a
pedal that stands already; a pedal up releases the sustained voices of a POLY part. The held lists, routes, bends,
parameters and tables stay, and PART_SILENT is offered for each part on the channel that was engaged and no longer is
(R49). In the only part on the channel, before a background pass takes a voice
(`settlePass`, R94, log 7), a pedal up lets go the sustained voices and pending notes
of a POLY part in active-list order, and those of a MONO or UNISON part with an empty held list in member index order, its
start record cancelled (R40); with a held list that is not empty only the Pedal changes. -/
def Obligations.PedalMarksAndReleases : Prop :=
  ∀ (channel value : Byte) (s : State), Ready s →
    ∃ t, exec (.pedal channel value) s = .next (arbitrate t) ∧
      let on := fun p : PartId => (s.part p).channel.map (·.val) = some channel.toNat
      (∀ p : PartId, (t.part p).pedal = (if on p then decide (value ≠ 0) else (s.part p).pedal) ∧
        (t.part p).held = (s.part p).held ∧ (t.part p).bend = (s.part p).bend ∧
        (t.part p).channel = (s.part p).channel) ∧
      (NoPass s → value ≠ 0 → t.vas.voices = s.vas.voices ∧ t.cvo = s.cvo ∧ t.lnk = s.lnk) ∧
      (NoPass s → value = 0 → (∀ p, on p → (s.part p).pedal = false) → t.vas.voices = s.vas.voices) ∧
      (∀ (p : PartId) (v : VoiceId), value = 0 → on p → (s.part p).pedal = true → s.param p pVoiceMode = 0 →
        v ∈ (s.part p).active → (s.voice v).state = .gated ∨ (s.voice v).state = .retrigger →
        (s.voice v).sustained = true → (t.voice v).state = .released) ∧
      t.pbu = s.pbu ∧ t.pmc = s.pmc ∧ t.pns = s.pns ∧ t.tun.tables = s.tun.tables ∧
      (NoPass s → ListsFollowVoices s →
        t = withSilence s (fun p => decide (on p)) { t with lnk := s.lnk, stu := s.stu }) ∧
      ∀ p : PartId, value = 0 → (∀ q, on q ↔ q = p) → (s.part p).pedal = true →
        let u := s.modPart p fun y => { y with pedal := false }
        let ended := fun x : State => settlePass s (withSilence s (fun q => decide (q = p)) x)
        let poly := s.param p pVoiceMode = 0
        (poly → t = ended ((s.part p).active.foldl (unsustained p) u)) ∧
        (¬ poly → (s.part p).held ≠ [] → t = settlePass s u) ∧
        (¬ poly → (s.part p).held = [] → (s.part p).start = none →
          t = ended ((stackMembers s p).foldl (unsustained p) u)) ∧
        (¬ poly → (s.part p).held = [] → ∀ r, (s.part p).start = some r → r.members.Nodup →
          t = ended ((stackMembers s p).foldl (unsustained p) (cancelled p r.members u)))

/-- R44, R45: SILENCE clears the held list and the start record of each selected part; RELEASE releases every active voice
to the free list in active-list order, QUENCH leaves every active voice QUENCHING with nothing pending; a form above 1 has
no effect. A release hold lasts 20 ms and 10 ms for each step of the part's AMP_RELEASE, a new quench
QUENCH_TIME ms, and a quench in progress goes on (R3, R44). PART_SILENT is offered for each selected part that was engaged
and no longer is (R49). The lists, the timers and the notices are those of a part with no background pass. -/
def Obligations.SilenceClearsParts : Prop :=
  ∀ (mask form : Byte) (s : State), Ready s →
    ∃ t, exec (.silence mask form) s = .next (arbitrate t) ∧
      (1 < form.toNat → t = s) ∧
      (form.toNat ≤ 1 → NoPass s → ∀ p : PartId,
        (mask.getLsbD p.val = false → t.part p = s.part p) ∧
        (mask.getLsbD p.val = true →
          t.part p = { s.part p with
            held := [], start := none,
            free := if form = 0 then (s.part p).free ++ (s.part p).active else (s.part p).free,
            active := if form = 0 then [] else (s.part p).active } ∧
          ∀ v ∈ (s.part p).active, (t.voice v).keyHeld = false ∧ (t.voice v).sustained = false ∧
            (t.voice v).pendingNote = none ∧
            (t.voice v).state = if form = 0 then .released else .quenching)) ∧
      (form.toNat ≤ 1 → NoPass s → ListsFollowVoices s →
        (∀ p : PartId, mask.getLsbD p.val = true → ∀ v ∈ (s.part p).active,
          let x := s.voice v
          t.voice v = { x with
            state := if form = 0 then .released else .quenching, keyHeld := false, sustained := false, pendingNote := none,
            releaseHold := if form = 0 then some (20 + 10 * s.param p pAmpRelease)
              else if x.state = .quenching then x.releaseHold else none,
            quench := if form = 0 then none
              else if x.state = .quenching then x.quench else some (s.param p pQuenchTime),
            gap := if form ≠ 0 ∧ x.state = .quenching then x.gap else none }) ∧
        t = withSilence s (fun p => mask.getLsbD p.val) { t with lnk := s.lnk, stu := s.stu }) ∧
      t.pbu = s.pbu ∧ t.pmc = s.pmc ∧ t.pns = s.pns ∧ t.tun.tables = s.tun.tables

/-- R3, R31, R32, R39: the expiries of the three voice timers. A quench that ends with a pending note sounds it; a member of
the start record waits, and the last of them starts the stack: every member takes the record's note, held by its key when
the held list is not empty and by the pedal when it is; any other voice becomes IDLE at its free list tail. A stopped timer
has no expiry (log 4). A gap expiry leaves key_held and sustained as they are, and the other expiries clear or set them as
the model reads R1 (log 20). A background pass may take a voice that an expiry leaves IDLE (`settlePass`, R94, log 7). -/
def Obligations.VoiceTimersExpire : Prop :=
  ∀ (v : VoiceId) (s : State),
    let x := s.voice v
    let idle := { x with state := .idle, keyHeld := false, sustained := false, pendingNote := none, releaseHold := none,
                         quench := none, gap := none }
    (x.releaseHold = none → exec (.releaseHoldExpiry v) s = .next s) ∧
    (x.quench = none → exec (.quenchExpiry v) s = .next s) ∧
    (x.gap = none → exec (.gapExpiry v) s = .next s) ∧
    (x.releaseHold ≠ none →
      exec (.releaseHoldExpiry v) s = .next (settlePass s ((s.modVoice v fun _ => idle).setGate v false))) ∧
    (x.gap ≠ none → exec (.gapExpiry v) s =
      .next ((s.modVoice v fun _ => { x with gap := none, state := .gated }).setGate v true)) ∧
    (x.quench ≠ none → ∀ p, x.part = some p →
      (∀ n, x.pendingNote = some n → v ∉ (s.part p).free →
        exec (.quenchExpiry v) s = .next (settlePass s (glideStart v ((s.modVoice v fun _ =>
          { x with state := .gated, sound := some (n.note, n.velocity), lastPlayed := some n.note,
                   keyHeld := !n.sustained, sustained := n.sustained, pendingNote := none, releaseHold := none,
                   quench := none, gap := none,
                   unisonIndex := if s.param p pVoiceMode = 2 then x.unisonIndex else 0 }).setGate v true)))) ∧
      (x.pendingNote = none → (∀ r, (s.part p).start = some r → v ∉ r.members) →
        exec (.quenchExpiry v) s = .next (settlePass s (((s.modVoice v fun _ => idle).setGate v false).modPart p fun r =>
          { r with active := r.active.filter (· ≠ v), free := r.free ++ [v] }))) ∧
      (x.pendingNote = none → ∀ r, (s.part p).start = some r → v ∈ r.members → 2 ≤ r.waiting →
        exec (.quenchExpiry v) s = .next (settlePass s (((s.modVoice v fun _ =>
          { idle with state := .waiting }).setGate v false).modPart p fun y =>
            { y with start := some { r with waiting := r.waiting - 1 } }))) ∧
      (x.pendingNote = none → ∀ r, (s.part p).start = some r → v ∈ r.members → r.waiting ≤ 1 →
        (∀ w ∈ r.members, w ∉ (s.part p).free) →
        let held := decide ((s.part p).held ≠ [])
        let starts := fun (t : State) (w : VoiceId) => glideStart w ((t.modVoice w fun y =>
          { y with state := .gated, sound := some (r.note, r.velocity), lastPlayed := some r.note, keyHeld := held,
                   sustained := !held, pendingNote := none, releaseHold := none, quench := none, gap := none,
                   unisonIndex := if s.param p pVoiceMode = 2 then y.unisonIndex else 0 }).setGate w true)
        exec (.quenchExpiry v) s = .next (settlePass s ((r.members.foldl starts s).modPart p fun y =>
          { y with start := none }))))

/-! ### The CV Output Unit (Section 3) -/

/-- R51, R52, R53, R67, R68, R70, R115: REFRESH_PASS_TIMER_EXPIRY begins a pass, also in place of one in progress, which is
the model's choice (log 24); OUTPUT_VISIT sends and latches the code of the output at the position and goes on, after
output 135 to IDLE, whatever the states of the other blocks, which stay. That the number and the code still stand on the
lines in the state after the visit is the model's choice (log 34). The outputs that are no pitch carry the codes of
R67, R68 and R70, and their visit changes nothing else. A stopped pass timer has no expiry and an IDLE sequence no visit
(log 4). -/
def Obligations.OutputVisitLatchesTheCode : Prop :=
  ∀ s : State,
    (s.cvo.passTimer = none → exec .refreshPassTimerExpiry s = .next s) ∧
    (s.cvo.passTimer ≠ none → exec .refreshPassTimerExpiry s =
      .next (s.modCvo fun c => { c with passTimer := some 1, position := some 0 })) ∧
    (s.cvo.position = none → exec .outputVisit s = .next s) ∧
    ∀ j : OutputId, s.cvo.position = some j →
      ∃ (t : State) (code : Nat), exec .outputVisit s = .next (arbitrate t) ∧
        t.cvo.latched = upd s.cvo.latched j (fun _ => code) ∧ t.cvo.bus = some (j, code) ∧
        t.cvo.position = (if h : j.val < 135 then some ⟨j.val + 1, by omega⟩ else none) ∧
        t.cvo.passTimer = s.cvo.passTimer ∧ t.cvo.gates = s.cvo.gates ∧ t.cvo.masterTune = s.cvo.masterTune ∧
        t.vas = s.vas ∧ t.tun = s.tun ∧ t.pbu = s.pbu ∧ t.pmc = s.pmc ∧ t.phase = s.phase ∧
        t.pns = { s.pns with visited :=
          s.pns.visited || decide (s.pns.position = .readback ∧ s.pns.pointer = j) } ∧
        (128 ≤ j.val ∨ 2 ≤ j.val % 8 → t.lnk = s.lnk ∧ t.stu = s.stu ∧ t.cvo.glide = s.cvo.glide ∧
          t.cvo.glideRate = s.cvo.glideRate ∧ t.cvo.spread = s.cvo.spread ∧ t.cvo.clampFlag = s.cvo.clampFlag) ∧
        (∀ v : VoiceId,
          let x := s.voice v
          let value : ParamId → Nat := fun i => match x.part with | some p => s.param p i | none => paramTable[i].default
          let note : Nat := match x.sound with | some y => y.1.val | none => 60
          let velocity : Nat := match x.sound with | some y => y.2.val | none => 64
          (j.val = 8 * v.val + 2 → (code : Int) = clampInt 0 65535
            (value pCutoff * 64 + value pKeyTrack * ((note : Int) - 60) * 8 + value pVelToCutoff * velocity * 2)) ∧
          (j.val = 8 * v.val + 3 → code = value pResonance * 64) ∧ (j.val = 8 * v.val + 4 → code = value pPwA * 64) ∧
          (j.val = 8 * v.val + 5 → code = value pPwB * 64) ∧ (j.val = 8 * v.val + 6 → code = value pMix * 64) ∧
          (j.val = 8 * v.val + 7 → code =
            if x.state = .quenching ∨ x.state = .waiting ∨ x.state = .tuning ∨ x.state = .disabled then 0
            else value pLevel * 64)) ∧
        ∀ p : PartId, (j.val = 128 + 2 * p.val → code = s.param p pAmpRelease * 64) ∧
          (j.val = 129 + 2 * p.val → code = s.param p pFilterEnvAmt * 64)

/-- R64: the correction of a pitch. Between two breakpoints, both included, the code is the pitch with the interpolated
correction, so that a pitch on a breakpoint receives that breakpoint's correction exactly; a pitch outside 0..65535 has the
code of the nearer end; every code lies within 0..65535. The correction lies between its two neighbours. -/
def Obligations.PitchIsCorrectedByItsTable : Prop :=
  ∀ (t : Vector Int 12) (p : Int),
    (∀ k : Fin 11, 6144 * (k.val : Int) ≤ p → p ≤ 6144 * (k.val + 1 : Int) → 0 ≤ p → p ≤ 65535 →
      let a := t[k.val]
      let b := t[k.val + 1]
      let c := a + roundDiv ((b - a) * (p - 6144 * k.val)) 6144
      (correctPitch t p : Int) = clampInt 0 65535 (p + c) ∧ min a b ≤ c ∧ c ≤ max a b) ∧
    (∀ k : Fin 11, (correctPitch t (6144 * k.val) : Int) = clampInt 0 65535 (6144 * k.val + t[k.val])) ∧
    (p < 0 → correctPitch t p = correctPitch t 0) ∧ (65535 < p → correctPitch t p = correctPitch t 65535) ∧
    correctPitch t p ≤ 65535

/-- R61 to R66, R71: the code of a visit to a pitch output. An oscillator that one channel holds while its voice is
TUNING gets the channel's test code, with its glide, spread and clamp flag untouched; any other gets its pitch through the
table in force, oscillator A's with G and the spread as this visit leaves them: the spread of a member of a UNISON stack
by its index, 0 on the active list of another part, and as it stands for a voice on no active list. The visit to output
8v moves G as `moveGlide` says (R59; GlideFollowsItsMode spells it), and the visit to 8v+1 leaves it. A clamp of the pitch or
of the corrected code sets the clamp flag, which counts in PITCH_CLAMPS at the step from clear to set. -/
def Obligations.PitchOutputsCarryTheirCodes : Prop :=
  ∀ (v : VoiceId) (second : Bool) (j : OutputId) (s : State), s.cvo.position = some j →
    j.val = 8 * v.val + second.toNat →
    let o := if second then oscB v else oscA v
    (∀ c : MeasId, (s.voice v).state = .tuning → s.tun.channels[c].osc = some o →
      (∀ d : MeasId, s.tun.channels[d].osc = some o → d = c) →
      exec .outputVisit s = .next (arbitrate (markVisited j (latch j s.tun.channels[c].code s)))) ∧
    ((s.voice v).state ≠ .tuning ∨ (∀ c : MeasId, s.tun.channels[c].osc ≠ some o) →
      ∃ t, exec .outputVisit s = .next (arbitrate t) ∧
        let x := s.voice v
        let value : ParamId → Nat := fun i => match x.part with | some p => s.param p i | none => paramTable[i].default
        let bend : Int := match x.part with | some p => (s.part p).bend | none => 0
        let g : Int := match t.cvo.glide[v] with | some g => g | none => glideTarget s v
        let pitch := g + truncDiv (bend * value pBendRange) 16 + t.cvo.spread[v] + s.cvo.masterTune +
          if second then ((value pOscBInterval : Int) - 24) * 512 + ((value pOscBDetune : Int) - 512) else 0
        let q := clampInt 0 65535 pitch
        let k : Fin 11 := ⟨min (q.toNat / 6144) 10, by omega⟩
        let below := s.tun.tables[o][k.val]
        let corrected := q + below + roundDiv ((s.tun.tables[o][k.val + 1] - below) * (q - 6144 * k.val)) 6144
        let clamped := decide (q ≠ pitch ∨ corrected < 0 ∨ 65535 < corrected)
        (second = false → t.cvo.spread[v] =
          match x.part with
          | none => s.cvo.spread[v]
          | some p =>
            let u := (s.part p).active.length
            if v ∉ (s.part p).active then s.cvo.spread[v]
            else if s.param p pVoiceMode = 2 ∧ 2 ≤ u ∧ x.unisonIndex < u then
              truncDiv ((s.param p pUnisonSpread : Int) * (2 * x.unisonIndex - u + 1)) (2 * (u - 1))
            else 0) ∧
        t.cvo.latched[j] = correctPitch s.tun.tables[o] pitch ∧ t.cvo.clampFlag = upd s.cvo.clampFlag o (fun _ => clamped) ∧
        (s.stu.counters[cPitchClamps] < 49151 →
          t.stu.counters = upd s.stu.counters cPitchClamps
            fun n => if clamped = true ∧ s.cvo.clampFlag[o] = false then n + 1 else n) ∧
        (∀ w, w ≠ v ∨ second = true → t.cvo.glide[w] = s.cvo.glide[w] ∧ t.cvo.spread[w] = s.cvo.spread[w]) ∧
        t.cvo.glide = (if second then s else moveGlide v s).cvo.glide ∧
        t.cvo.glideRate = (if second then s else moveGlide v s).cvo.glideRate)

/-- R57 to R60: a glide start, and the movement of G at a visit to output 8v. Toward its target G moves by its step and
never past it, and a TIME glide arrives within GLIDE_AMOUNT steps of its start. A TIME movement with no rate computes one,
also at distance 0, which is the model's choice (log 32). -/
def Obligations.GlideFollowsItsMode : Prop :=
  (∀ (v : VoiceId) (s : State),
    let x := s.voice v
    let value : ParamId → Nat := fun i => match x.part with | some p => s.param p i | none => paramTable[i].default
    let note : Nat := match x.sound with | some y => y.1.val | none => 60
    let n : Int := ((note : Int) - 12 + value pTranspose - 24) * 512
    let off := value pGlideMode = 0 ∨ value pGlideAmount = 0
    let put := fun (g : Option Int) (rate : Option Nat) => s.modCvo fun c =>
      { c with glide := upd c.glide v fun _ => g, glideRate := upd c.glideRate v fun _ => rate }
    let rateFrom : Int → Nat := fun g => max 1 (((n - g).natAbs + value pGlideAmount - 1) / value pGlideAmount)
    (s.cvo.glide[v] = none → glideStart v s = put (some n) none ∧ moveGlide v s = s) ∧
    (∀ g, s.cvo.glide[v] = some g →
      (off → glideStart v s = put (some n) none ∧ moveGlide v s = put (some n) s.cvo.glideRate[v]) ∧
      (¬ off → value pGlideMode = 2 → glideStart v s = put (some g) (some (rateFrom g)) ∧
        let rate := s.cvo.glideRate[v].getD (rateFrom g)
        moveGlide v s = put (some (stepToward g n rate)) (some rate)) ∧
      (¬ off → value pGlideMode ≠ 2 → glideStart v s = put (some g) none ∧
        moveGlide v s = put (some (stepToward g n (value pGlideAmount))) s.cvo.glideRate[v]))) ∧
  (∀ (g n : Int) (step : Nat), (n - stepToward g n step).natAbs = (n - g).natAbs - step ∧
    min g n ≤ stepToward g n step ∧ stepToward g n step ≤ max g n) ∧
  (∀ (g n : Int) (amount : Nat), 0 < amount →
    Nat.repeat (fun x => stepToward x n (max 1 (((n - g).natAbs + amount - 1) / amount))) amount g = n)

/-! ### The Tuning Unit (Section 4) -/

/-- R74 to R79, R82: SETTLE_EXPIRY, and OSC_RISING_EDGE at the oscillator that one channel holds, through the whole
correction search: the first edge begins COUNT, further edges are counted, and at the last the measurement m fails, steps,
or converges, at breakpoint 9 with the table replaced whole, the channel released and the verdict OK (`giveVerdict`,
R82). `failOscillator` is what a failure does (R80; VerdictsEndAVoice says both), and a background pass may take a voice at
the end of the event (`settlePass`, R94; BackgroundPassBegins). An edge at any other oscillator is ignored.
That the edge's operand is the reference cycles since the previous edge, which m sums, is the model's choice (log 14), and
so is that a stopped settle timer has no expiry (log 4). -/
def Obligations.ChannelsSearchTheCorrections : Prop :=
  ∀ (c : MeasId) (s : State),
    let x := s.tun.channels[c]
    let become := fun y : Channel => s.modTun fun t => { t with channels := upd t.channels c fun _ => y }
    (x.settleTimer = none → exec (.settleExpiry c) s = .next s) ∧
    (x.settleTimer ≠ none → exec (.settleExpiry c) s =
      .next (become { x with state := .arm, settleTimer := none, edgeTimer := some 100 })) ∧
    ∀ (o : OscId) (cycles : Nat),
      let run := exec (.oscRisingEdge o cycles) s
      let after := fun t : State => (Host.Outcome.next (arbitrate (settlePass s t)) : Host.Outcome State Fault Refusal)
      ((∀ d : MeasId, s.tun.channels[d].osc ≠ some o) → run = after s) ∧
      (x.osc = some o → (∀ d : MeasId, s.tun.channels[d].osc = some o → d = c) →
        let m := min 1600000 (x.reference + cycles)
        let counted := { x with edges := x.edges + 1, reference := m }
        let measured := { counted with countTimer := none, measurements := x.measurements + 1 }
        let step := roundDiv (((m : Int) - 244624) * 8864) 244624
        let next := (x.code : Int) + step
        let settling := fun y : Channel =>
          { y with state := .settle, settleTimer := some s.tun.settleTime, edgeTimer := none, countTimer := none }
        (x.state = .settle → run = after s) ∧
        (x.state = .arm → run = after (become
          { x with state := .count, edgeTimer := none, countTimer := some 200, edges := 0, reference := 0 })) ∧
        (x.state = .count → x.edges + 1 < 2 ^ (x.breakpoint - 1) → run = after (become counted)) ∧
        (x.state = .count → 2 ^ (x.breakpoint - 1) ≤ x.edges + 1 →
          (m < 183468 ∨ 326165 < m → run = after (failOscillator c .outOfRange (become measured))) ∧
          (183468 ≤ m → m ≤ 326165 →
            (step ≠ 0 → x.measurements = 7 → run = after (failOscillator c .noConverge (become measured))) ∧
            (step ≠ 0 → x.measurements ≠ 7 →
              (0 ≤ next ∧ next ≤ 65535 ∧ InCorrectionRange (next - 6144 * x.breakpoint) →
                run = after (become (settling { measured with code := next.toNat }))) ∧
              (¬ (0 ≤ next ∧ next ≤ 65535 ∧ InCorrectionRange (next - 6144 * x.breakpoint)) →
                run = after (failOscillator c .outOfRange (become measured)))) ∧
            (∀ i : Fin 9, step = 0 → x.breakpoint = i.val + 1 → i.val < 8 →
              run = after (become (settling { measured with
                candidates := upd x.candidates i fun _ => some ((x.code : Int) - 6144 * (i.val + 1)),
                breakpoint := i.val + 2, measurements := 0,
                code := (clampInt 0 65535 (6144 * (i.val + 2) + s.tun.tables[o][i.val + 2])).toNat }))) ∧
            (∀ found : Fin 8 → Int, step = 0 → x.breakpoint = 9 → (∀ i : Fin 8, x.candidates[i] = some (found i)) →
              let c9 := (x.code : Int) - 55296
              let c10 := clampInt (-4096) 4095 (2 * c9 - found 7)
              let tables := upd s.tun.tables o fun _ =>
                #v[clampInt (-4096) 4095 (2 * found 0 - found 1), found 0, found 1, found 2, found 3, found 4, found 5,
                  found 6, found 7, c9, c10, clampInt (-4096) 4095 (2 * c10 - c9)]
              run = after (giveVerdict o .ok ((become (unheldChannel measured)).modTun fun u =>
                { u with tables := tables })) ∧
              ∃ t, run = .next (arbitrate t) ∧ t.tun.tables = tables))))

/-- R80, R81: EDGE_TIMER_EXPIRY and COUNT_TIMER_EXPIRY complete as a failure NO_SIGNAL; a stopped timer has no expiry
(log 4). A failure leaves every table whole, counts once in TUNE_FAILS and sets TUNE_FAIL; its channel releases the
oscillator and is IDLE, with the fields that stay of log 21, and the oscillator has the verdict (`giveVerdict`). So does a
success, with OK, its table replaced by that of its candidates (R82). R87, R88, R95: the first verdict
of a voice is recorded, whichever oscillator has it, and the later one ends its tune: the voice is DISABLED with a NO_SIGNAL
verdict, with VOICE_DISABLED set, or when it was listed DISABLED and not both verdicts are OK, and otherwise IDLE; it moves
to the tune-age list's tail, TUNE_VOICE_DONE is offered, and its entry of the job ends (`EntryEnds`: R86, R89). R90, R13: a
disable of a TUNING voice stops its channels, keeps the tables and the tune-age list and makes the voice DISABLED; its entry
ends with NOT_DONE for each oscillator without a verdict, and a background voice leaves the pass without a notice. -/
def Obligations.VerdictsEndAVoice : Prop :=
  (∀ (c : MeasId) (s : State),
    let x := s.tun.channels[c]
    let failed := (Host.Outcome.next (arbitrate (settlePass s (failOscillator c .noSignal s))) :
      Host.Outcome State Fault Refusal)
    (exec (.edgeTimerExpiry c) s = if x.edgeTimer = none then .next s else failed) ∧
    (exec (.countTimerExpiry c) s = if x.countTimer = none then .next s else failed) ∧
    (∀ r : OscResult, x.osc ≠ none →
      let t := settlePass s (failOscillator c r s)
      t.tun.tables = s.tun.tables ∧ t.stu.counters[cTuneFails] = s.stu.counters[cTuneFails] + 1 ∧
      t.stu.flags[fTuneFail] = ⟨true, false⟩ ∧ t.pbu = s.pbu ∧ t.pmc = s.pmc ∧ t.pns = s.pns) ∧
    (let freeing := s.modTun fun u => { u with channels := upd u.channels c unheldChannel }
     ∀ o, x.osc = some o →
      (∀ r, failOscillator c r s = giveVerdict o r (setFault fTuneFail (countUp cTuneFails freeing))) ∧
      succeedOscillator c s = giveVerdict o .ok (freeing.modTun fun u =>
        { u with tables := upd u.tables o fun _ => finishedTable x.candidates }))) ∧
  (∀ (v : VoiceId) (second : Bool) (earlier later : OscResult) (s : State),
    let a := if second then earlier else later
    let b := if second then later else earlier
    let silent := a = .noSignal ∨ b = .noSignal
    let t := giveVerdict (if second then oscB v else oscA v) later s
    let quiet := { t with lnk := s.lnk, stu := s.stu }
    let told := offerNotice (.tuneVoiceDone v a b) (if silent then setFault fVoiceDisabled quiet else quiet)
    (s.tun.background = some v →
      let other := if second then s.tun.backgroundA else s.tun.backgroundB
      (other = none → t = s.modTun fun u =>
        if second then { u with backgroundB := some later } else { u with backgroundA := some later }) ∧
      (other = some earlier →
        (t.voice v).state = (if silent then .disabled else .idle) ∧ t.tun.background = none ∧
        t.tun.passList = s.tun.passList.filter (· ≠ v) ∧ t.tun.ageList = s.tun.ageList.filter (· ≠ v) ++ [v] ∧
        t.tun.tables = s.tun.tables ∧ t = told)) ∧
    (s.tun.background ≠ some v → ∀ e, entryOf s v = some e →
      let other := if second then e.resultA else e.resultB
      (other = none → t = s.modTun fun u => { u with job := u.job.map fun j => { j with entries := j.entries.map fun x =>
        if x.voice = v then
          if second then { x with resultB := some later } else { x with resultA := some later }
        else x } }) ∧
      (other = some earlier →
        (t.voice v).state =
          (if silent ∨ (e.wasDisabled = true ∧ ¬ (a = .ok ∧ b = .ok)) then .disabled else .idle) ∧
        t.tun.ageList = s.tun.ageList.filter (· ≠ v) ++ [v] ∧ t.tun.tables = s.tun.tables ∧
        ∀ j, s.tun.job = some j → EntryEnds v a b e j s.tun.channels s t told))) ∧
  ∀ (v : VoiceId) (s : State), (s.voice v).state = .tuning →
    let t := disableVoice v s
    let quiet := { t with lnk := s.lnk, stu := s.stu }
    t.voice v = { s.voice v with
      state := .disabled, keyHeld := false, sustained := false, pendingNote := none, releaseHold := none, quench := none,
      gap := none } ∧
    t.cvo.gates[v] = false ∧ t.cvo.glide[v] = none ∧ t.cvo.spread[v] = 0 ∧ t.tun.tables = s.tun.tables ∧
    t.tun.ageList = s.tun.ageList ∧ t.tun.passList = s.tun.passList.filter (· ≠ v) ∧
    (s.tun.background = some v → t = quiet ∧ t.tun.background = none ∧ t.tun.channels = stopped v s) ∧
    (s.tun.background ≠ some v →
      ((∀ e, entryOf s v = some e → e.status = .done) → t = quiet ∧ t.tun.channels = stopped v s) ∧
      ∀ e, entryOf s v = some e → ∀ j, s.tun.job = some j → e.status ≠ .done →
        let a := e.resultA.getD .notDone
        let b := e.resultB.getD .notDone
        EntryEnds v a b e j (stopped v s) s t (offerNotice (.tuneVoiceDone v a b) quiet))

/-- R84, R85, R86: TUNE_START is refused with a mask of 0 or while a job runs (a mask of 0 first, which is the model's
choice, log 33); otherwise it makes the job of the listed voices in ascending order, gives pair 0 to the first and pair 1
to the second, and takes every listed voice into TUNING off its part's lists, with its Note kept, its gate low and its
glided pitch invalid, and with the PART_SILENT notices of R49. The last clause is the whole of an accepted TUNE_START: a
running pass is abandoned first (R97), each listed voice in ascending order goes out of service, its part's start record
cancelled or its stack renumbered when it was a member (R12, R40, R42, R48), and the two pairs begin their searches; no
other voice changes. -/
def Obligations.TuneStartTakesTheListedVoices : Prop :=
  ∀ (tag : Byte) (mask : BitVec 16) (s : State), Ready s →
    let run := exec (.tuneStart tag mask) s
    let listed := allVoices.filter fun v => mask.getLsbD v.val
    (mask = 0 → run = .next (answered 0x30 tag .badValue [] s)) ∧
    (mask ≠ 0 → s.tun.job ≠ none → run = .next (answered 0x30 tag .busy [] s)) ∧
    (mask ≠ 0 → s.tun.job = none → ∃ t, run = .next (answered 0x30 tag .ok [] t) ∧
      t.tun.passList = [] ∧ (s.tun.passList ≠ [] ∨ s.tun.background = none → t.tun.background = none) ∧
      t.tun.intervalTimer = none ∧ t.tun.tables = s.tun.tables ∧
      t.tun.ageList = s.tun.ageList ∧ t.pbu = s.pbu ∧ t.pmc = s.pmc ∧ t.pns = s.pns ∧
      (s.tun.background = none → t.tun.job = some ⟨tag, listed.zipIdx.map fun e =>
        { voice := e.1, status := if e.2 < 2 then .measuring else .queued,
          pair := if e.2 = 0 then some 0 else if e.2 = 1 then some 1 else none,
          wasDisabled := decide ((s.voice e.1).state = .disabled), resultA := none, resultB := none }⟩ ∧
        t = withSilence s (fun _ => true) { t with lnk := s.lnk, stu := s.stu }) ∧
      (∀ v w rest, listed = v :: rest → t.tun.channels[(0 : MeasId)].osc = some (oscA v) ∧
        t.tun.channels[(1 : MeasId)].osc = some (oscB v) ∧
        (rest.head? = some w → t.tun.channels[(2 : MeasId)].osc = some (oscA w) ∧
          t.tun.channels[(3 : MeasId)].osc = some (oscB w))) ∧
      (∀ v : VoiceId, (t.voice v).part = (s.voice v).part ∧ (t.voice v).sound = (s.voice v).sound ∧
        (t.voice v).lastPlayed = (s.voice v).lastPlayed) ∧
      (∀ v ∈ listed, (t.voice v).state = .tuning ∧ (t.voice v).keyHeld = false ∧ (t.voice v).sustained = false ∧
        (t.voice v).pendingNote = none ∧ (t.voice v).releaseHold = none ∧ (t.voice v).quench = none ∧
        (t.voice v).gap = none ∧ t.cvo.gates[v] = false ∧ t.cvo.glide[v] = none ∧ t.cvo.spread[v] = 0 ∧
        ∀ p, (s.voice v).part = some p → v ∉ (t.part p).free ∧ v ∉ (t.part p).active) ∧
      (NamedOnce s →
        let begun := if s.tun.passList = [] then s else abandonPass s
        let taken := listed.foldl (fun u v => withoutMember u v (outOfService .tuning v u)) begun
        t = (withSilence s (fun _ => true) taken).modTun fun u => { u with
          intervalTimer := none,
          job := some ⟨tag, listed.zipIdx.map fun e =>
            { voice := e.1, status := if e.2 < 2 then .measuring else .queued,
              pair := if e.2 = 0 then some 0 else if e.2 = 1 then some 1 else none,
              wasDisabled := decide ((begun.voice e.1).state = .disabled), resultA := none, resultB := none }⟩,
          channels := Vector.ofFn fun c =>
            match listed[c.val / 2]? with
            | none => u.channels[c]
            | some v => searching s (if c.val % 2 = 0 then oscA v else oscB v) u.channels[c] }))

/-- R89: TUNE_ABORT with no job and no pass changes nothing; otherwise every channel is freed, every TUNING voice is handed
back, DISABLED when it was listed DISABLED or has a NO_SIGNAL verdict and otherwise IDLE, and the job, the pass and the
background voice are gone; the tables and the tune-age list stay and TUNE_YIELDS does not count. The last clause is the
whole of the change: the IDLE voices join their parts' free list tails in ascending order, VOICE_DISABLED is set when a
voice has a NO_SIGNAL verdict, and a job ends with TUNE_DONE(ABORTED) and its tag. -/
def Obligations.TuneAbortHandsTheVoicesBack : Prop :=
  ∀ (tag : Byte) (s : State), Ready s →
    let run := exec (.tuneAbort tag) s
    (s.tun.job = none → s.tun.passList = [] → run = .next (answered 0x31 tag .ok [] s)) ∧
    (¬ (s.tun.job = none ∧ s.tun.passList = []) → ∃ t, run = .next (answered 0x31 tag .ok [] t) ∧
      t.tun.job = none ∧ t.tun.passList = [] ∧ t.tun.background = none ∧ (∀ c : MeasId, t.tun.channels[c].osc = none) ∧
      t.tun.tables = s.tun.tables ∧ t.tun.ageList = s.tun.ageList ∧
      t.tun.intervalTimer = (if s.tun.interval = 0 then s.tun.intervalTimer else some (s.tun.interval * 60000)) ∧
      t.stu.counters[cTuneYields] = s.stu.counters[cTuneYields] ∧ t.pbu = s.pbu ∧ t.pmc = s.pmc ∧ t.pns = s.pns ∧
      (∀ v : VoiceId, (s.voice v).state ≠ .tuning → t.voice v = s.voice v) ∧
      (∀ v : VoiceId, (s.voice v).state = .tuning → s.tun.background = some v → (t.voice v).state =
        if s.tun.backgroundA = some .noSignal ∨ s.tun.backgroundB = some .noSignal ∨
          (∃ e, entryOf s v = some e ∧ e.wasDisabled = true) then .disabled else .idle) ∧
      (∀ v : VoiceId, (s.voice v).state = .tuning → s.tun.background ≠ some v → (t.voice v).state =
        if ∃ e, entryOf s v = some e ∧ (e.resultA = some .noSignal ∨ e.resultB = some .noSignal ∨ e.wasDisabled = true)
          then .disabled else .idle) ∧
      let tuned := fun v : VoiceId => decide ((s.voice v).state = .tuning)
      let mute := fun r : Option OscResult => decide (r = some .noSignal)
      let silent := fun v : VoiceId =>
        if s.tun.background = some v then mute s.tun.backgroundA || mute s.tun.backgroundB
        else match entryOf s v with
          | some e => mute e.resultA || mute e.resultB
          | none => false
      let off := fun v : VoiceId => silent v || match entryOf s v with | some e => e.wasDisabled | none => false
      let back : State := { s with
        vas := { s.vas with
          voices := Vector.ofFn fun v =>
            if tuned v then
              { s.voice v with
                state := if off v then .disabled else .idle, keyHeld := false, sustained := false, pendingNote := none,
                releaseHold := none, quench := none, gap := none }
            else s.voice v,
          parts := Vector.ofFn fun p => { s.part p with
            free := (s.part p).free ++
              allVoices.filter fun v => tuned v && !off v && decide ((s.voice v).part = some p) } },
        cvo := { s.cvo with
          gates := Vector.ofFn fun v => if tuned v then false else s.cvo.gates[v],
          glide := Vector.ofFn fun v => if tuned v && off v then none else s.cvo.glide[v],
          glideRate := Vector.ofFn fun v => if tuned v && off v then none else s.cvo.glideRate[v],
          spread := Vector.ofFn fun v => if tuned v && off v then 0 else s.cvo.spread[v] },
        tun := { s.tun with
          job := none, passList := [], background := none, backgroundA := none, backgroundB := none,
          intervalTimer := if s.tun.interval = 0 then s.tun.intervalTimer else some (s.tun.interval * 60000),
          channels := s.tun.channels.map fun x => if x.osc = none then x else unheldChannel x } }
      let told := if ∃ v : VoiceId, tuned v = true ∧ silent v = true then setFault fVoiceDisabled back else back
      t = match s.tun.job with
        | some j => offerNotice (.tuneDone true j.tag) told
        | none => told)

/-- R99, R100: GET_TUNING reports the twelve corrections of an oscillator and refuses one above 31; RESET_TUNING is refused
while an oscillator of the mask belongs to a TUNING voice, and otherwise zeroes the tables of the mask and changes nothing
else. -/
def Obligations.TuningTablesAreReadAndZeroed : Prop :=
  ∀ (tag osc : Byte) (mask : BitVec 32) (s : State), Ready s →
    (31 < osc.toNat → exec (.getTuning tag osc) s = .next (answered 0x33 tag .badValue [] s)) ∧
    (∀ o : OscId, osc = byte o → exec (.getTuning tag osc) s =
      .next (answered 0x33 tag .ok (s.tun.tables[o].toList.flatMap signedWord) s)) ∧
    let busy := ∃ o : OscId, mask.getLsbD o.val = true ∧ (s.voice (voiceOfOsc o)).state = .tuning
    (busy → exec (.resetTuning tag mask) s = .next (answered 0x34 tag .busy [] s)) ∧
    (¬ busy → exec (.resetTuning tag mask) s = .next (answered 0x34 tag .ok [] (s.modTun fun u =>
      { u with tables := Vector.ofFn fun o =>
          if mask.getLsbD o.val then Vector.replicate 12 0 else u.tables[o] })))

/-- R92, R93, R94, R95: at the interval timer's expiry the pass list is the tune-age list less the DISABLED voices; an
empty one ends the pass at once and the timer starts again; the listed voice nearest the head that is IDLE becomes the
background voice, TUNING and off its free list, its oscillators in search on channels 0 and 1 (`passTakes`); with none IDLE
the pass waits. A stopped timer has no expiry (log 4). R93, R94, R95: at the end of every event that may leave a listed voice
IDLE or take one off the pass list (`settlePass`, which the statements of those events name) a pass that measures no voice
takes the listed voice nearest the head that is IDLE, and a pass whose list the event has emptied has ended, its interval
timer started again; that this waits for the end of the event is the model's choice (log 7). R96: a yield stops both searches, counts once in TUNE_YIELDS, and leaves the
voice IDLE at its part's free list tail and at the pass list's tail, the tables and the tune-age list as they are. R97: an
abandoned pass yields its voice, if it measures one, and discards the pass list. R27, R35, R38: a key that finds the free
list empty yields the background voice of its part's pool, which takes the note at once: a new note of a POLY part, or the
priority note of a MONO or UNISON part with no voice; the pass takes its next voice at the end of that event. -/
def Obligations.BackgroundPassBegins : Prop :=
  (∀ s : State,
    let run := exec .backgroundIntervalExpiry s
    let listed := s.tun.ageList.filter fun v => (s.voice v).state ≠ .disabled
    let begun := s.modTun fun u => { u with intervalTimer := none, passList := listed }
    (s.tun.intervalTimer = none → run = .next s) ∧
    (s.tun.intervalTimer ≠ none →
      (listed = [] → run = .next (s.modTun fun u => { u with
        intervalTimer := if u.interval = 0 then none else some (u.interval * 60000), passList := [] })) ∧
      (listed ≠ [] → s.tun.background = none →
        ((∀ v ∈ listed, (s.voice v).state ≠ .idle) → run = .next begun) ∧
        (∀ v before after, listed = before ++ v :: after → (∀ w ∈ before, (s.voice w).state ≠ .idle) →
          (s.voice v).state = .idle → run = .next (passTakes v begun))))) ∧
  (∀ before s : State,
    let ended := s.modTun fun u =>
      { u with intervalTimer := if u.interval = 0 then u.intervalTimer else some (u.interval * 60000) }
    (NoPass s → settlePass before s = if NoPass before then s else ended) ∧
    (¬ NoPass s → s.tun.background ≠ none → settlePass before s = s) ∧
    (¬ NoPass s → s.tun.background = none →
      ((∀ v ∈ s.tun.passList, (s.voice v).state ≠ .idle) → settlePass before s = s) ∧
      ∀ v first after, s.tun.passList = first ++ v :: after → (∀ w ∈ first, (s.voice w).state ≠ .idle) →
        (s.voice v).state = .idle → settlePass before s = passTakes v s)) ∧
  (∀ s : State,
    (s.tun.background = none →
      yieldBackground s = s ∧ abandonPass s = s.modTun fun u => { u with passList := [] }) ∧
    ∀ v, s.tun.background = some v →
      yieldBackground s = countUp cTuneYields { s with
        vas := { s.vas with
          voices := upd s.vas.voices v fun x =>
            { x with state := .idle, keyHeld := false, sustained := false, pendingNote := none, releaseHold := none,
                     quench := none, gap := none },
          parts := Vector.ofFn fun p =>
            if (s.voice v).part = some p then { s.part p with free := (s.part p).free ++ [v] } else s.part p },
        cvo := { s.cvo with gates := upd s.cvo.gates v fun _ => false },
        tun := { s.tun with
          background := none, backgroundA := none, backgroundB := none, channels := stopped v s,
          passList := s.tun.passList.filter (· ≠ v) ++ [v] } } ∧
      abandonPass s = (yieldBackground s).modTun fun u => { u with passList := [] }) ∧
  ∀ (channel : Byte) (n : Note) (velocity : Byte) (down : Bool) (p : PartId) (v : VoiceId) (s : State), Ready s →
    velocity ≠ 0 → ReachesOnly s channel n p → (s.part p).free = [] → s.tun.background = some v →
    (s.voice v).part = some p →
    let u := keyed p n down s
    let takes := fun (P : Note) =>
      let y := yieldBackground u
      let y := if s.param p pVoiceMode = 2 then numbered [v] y else y
      let t := given p v P (if down = true ∧ n = P then clampVelocity velocity else 64) y
      (Host.Outcome.next (arbitrate (settlePass s (if down then countUp (cKeysAccepted p) t else t))) :
        Host.Outcome State Fault Refusal)
    let run := if down then exec (.keyDown channel (byte n) velocity) s else exec (.keyUp channel (byte n)) s
    (s.param p pVoiceMode = 0 → down = true → (∀ w ∈ (s.part p).active, (s.voice w).heldNote ≠ some n) →
      run = takes n) ∧
    ∀ P : Note, s.param p pVoiceMode ≠ 0 → (s.part p).active = [] → (s.part p).start = none →
      let rule := s.param p pNotePriority
      priorityNote rule (u.part p).held = some P →
      down = true ∨ priorityNote rule (s.part p).held ≠ some P → run = takes P

/-! ### The Panel Scanner (Section 5) -/

/-- R102, R103, R104, R113, R114: SCAN_TIMER_EXPIRY begins a pass at SWITCHES (in place of one in progress, log 24);
SWITCH_SAMPLING acts on the 32 debouncers, queues a SWITCH_CHANGED for each change in ascending order, and goes on to
CONTROL 0; CONTROL_CONVERSION keeps the raw value in its control's provisional slot and goes on. At another step neither
acts (log 4). -/
def Obligations.ScanPassTakesItsSteps : Prop :=
  ∀ (samples : BitVec 32) (raw : BitVec 12) (s : State),
    (s.pns.scanTimer = none → exec .scanTimerExpiry s = .next s) ∧
    (s.pns.scanTimer ≠ none → exec .scanTimerExpiry s = .next (s.modPns fun x =>
      { x with scanTimer := some x.scanPeriod, position := .switches, visited := false })) ∧
    (s.pns.position ≠ .switches → exec (.switchSampling samples) s = .next s) ∧
    (s.pns.position = .switches → ∃ t, exec (.switchSampling samples) s = .next (arbitrate t) ∧
      t.pns = { s.pns with position := .control 0, switches := t.pns.switches } ∧
      (∀ w : SwitchId,
        let x := s.pns.switches[w]
        let sample := samples.getLsbD w.val
        t.pns.switches[w] =
          match x.debounced with
          | none => { x with debounced := some sample }
          | some d =>
            if sample = d then { x with count := 0 }
            else if x.count ≤ 1 then { x with count := x.count + 1 } else ⟨some sample, 0⟩) ∧
      t.vas = s.vas ∧ t.cvo = s.cvo ∧ t.tun = s.tun ∧ t.pbu = s.pbu ∧ t.pmc = s.pmc ∧
      (let changed := (List.finRange 32).filter fun w =>
        s.pns.switches[w].debounced = some (!samples.getLsbD w.val) && 2 ≤ s.pns.switches[w].count
       s.stu.noticeMask.getLsbD 1 = false → s.lnk.notices.length + changed.length ≤ 24 →
        t.lnk = { s.lnk with
          seq := s.lnk.seq + BitVec.ofNat 8 changed.length,
          notices := s.lnk.notices ++ changed.zipIdx.map fun e =>
            (s.lnk.seq + BitVec.ofNat 8 e.2, .switchChanged e.1 (samples.getLsbD e.1.val)) })) ∧
    (∀ c : ControlId, s.pns.position = .control c → exec (.controlConversion raw) s = .next (s.modPns fun x =>
      { x with position := if h : c.val < 95 then .control ⟨c.val + 1, by omega⟩ else .refLow,
               filters := upd x.filters c fun f => { f with provisional := some raw.toNat } })) ∧
    ((∀ c : ControlId, s.pns.position ≠ .control c) → exec (.controlConversion raw) s = .next s)

/-- R106, R107, R118, R119: REFERENCE_CONVERSION keeps the reading of REF_LOW; at REF_HIGH both references are judged, and
the pass is held when an untested reference is out of window, its provisional values discarded, and otherwise every control
is evaluated in ascending order and the pass goes on to READBACK, where a pending READBACK test is consumed. R112, R105: a
moment of the link that falls before the evaluation of a control is taken there, after the evaluations before it and before
the others; where it is a request, it acts between their motion events, and where it brings a reset, the pass stops. A
conversion at another step changes nothing (log 4); the marks of a tested reading and of a tested readback are the model's
(log 15); that the judgment is one command with the conversion of REF_HIGH, that the operand places the moment, and that a
moment that divides no evaluation follows the command, are the model's choices (log 25). -/
def Obligations.ReferencesHoldOrApplyThePass : Prop :=
  ∀ (raw : BitVec 12) (s : State),
    let run := exec (.referenceConversion ⟨raw, none⟩) s
    let taken := fun (r : Reference) (test : Bool) =>
      { r with reading := if test then 0 else raw.toNat, tested := test }
    let lo := s.pns.refLow
    let hi := taken s.pns.refHigh s.stu.tests[(1 : Fin 3)]
    let inside := fun (e : Nat) (r : Reference) => e - 64 ≤ r.reading ∧ r.reading ≤ e + 64
    let held := ¬ ((lo.tested = true ∨ inside 1024 lo) ∧ (hi.tested = true ∨ inside 3072 hi))
    let judged := fun (e : Nat) (r : Reference) =>
      { r with count := if r.tested then r.count else if inside e r then 0 else if r.count = 0 then 1 else 2 }
    let asks := fun (e : Nat) (r : Reference) => r.tested = true ∨ (¬ inside e r ∧ 1 ≤ r.count)
    let ask := fun (f : FlagId) (e : Nat) (r : Reference) (u : State) =>
      if r.tested then forceFault f u else if ¬ inside e r ∧ 1 ≤ r.count then setFault f u else u
    let judgment := ask fRefHigh 3072 hi (ask fRefLow 1024 lo { s with
      pns := { s.pns with position := .judge, refLow := judged 1024 lo, refHigh := judged 3072 hi },
      stu := { s.stu with tests := upd s.stu.tests 1 fun _ => false } })
    let reading := fun u : State => { u with
      pns := { u.pns with position := .readback, visited := false, readbackTested := u.stu.tests[(2 : Fin 3)] },
      stu := { u.stu with tests := upd u.stu.tests 2 fun _ => false } }
    (s.pns.position ≠ .refLow → s.pns.position ≠ .refHigh → run = .next s) ∧
    (s.pns.position = .refLow → run = .next { s with
      pns := { s.pns with position := .refHigh, refLow := taken s.pns.refLow s.stu.tests[(0 : Fin 3)] },
      stu := { s.stu with tests := upd s.stu.tests 0 fun _ => false } }) ∧
    (s.pns.position = .refHigh →
      (held → run = .next (arbitrate (settlePass s (judgment.modPns fun x => { x with
        position := .idle, filters := x.filters.map fun f => { f with provisional := none } })))) ∧
      (¬ held → run = .next (arbitrate (settlePass s (reading (allControls.foldl evaluateControl judgment))))) ∧
      ∃ t, run = .next (arbitrate t) ∧
        t.pns.refLow = judged 1024 lo ∧ t.pns.refHigh = judged 3072 hi ∧ t.stu.tests[(1 : Fin 3)] = false ∧
        t.stu.flags[fRefLow].isSet = (s.stu.flags[fRefLow].isSet || decide (asks 1024 lo)) ∧
        t.stu.flags[fRefHigh].isSet = (s.stu.flags[fRefHigh].isSet || decide (asks 3072 hi)) ∧
        (lo.tested = true → s.stu.flags[fRefLow].isSet = false → t.stu.flags[fRefLow] = ⟨true, true⟩) ∧
        t.pns.pointer = s.pns.pointer ∧ t.pns.retry = s.pns.retry ∧ t.pns.switches = s.pns.switches ∧
        t.pns.scanTimer = s.pns.scanTimer ∧ t.pmc = s.pmc ∧ t.tun.tables = s.tun.tables ∧
        (held → t.pns.position = .idle ∧ t.pbu = s.pbu ∧ t.lnk.reports = s.lnk.reports ∧
          t.stu.tests[(2 : Fin 3)] = s.stu.tests[(2 : Fin 3)] ∧
          ∀ c : ControlId, t.pns.filters[c] = { s.pns.filters[c] with provisional := none }) ∧
        (¬ held → t.pns.position = .readback ∧ t.pns.visited = false ∧
          t.pns.readbackTested = s.stu.tests[(2 : Fin 3)] ∧ t.stu.tests[(2 : Fin 3)] = false ∧
          ∀ c : ControlId, t.pns.filters[c].provisional = none)) ∧
    ∀ x : Meeting,
      let met := exec (.referenceConversion ⟨raw, some x⟩) s
      let link := exec (momentCommand x.moment)
      (¬ (s.pns.position = .refHigh ∧ ¬ held) → ∀ t, run = .next t → met = link t) ∧
      (s.pns.position = .refHigh → ¬ held → ∃ t,
        link (arbitrate (settlePass s ((allControls.filter (· < x.before)).foldl evaluateControl judgment))) = .next t ∧
        (t.pns.position = .judge → met = .next (arbitrate (settlePass t
          (reading ((allControls.filter (x.before ≤ ·)).foldl evaluateControl t))))) ∧
        (t.pns.position ≠ .judge → met = .next t))

/-- R109, R110, R111, R112, R135: a control evaluated at an applied JUDGE. An unseeded one is seeded with no motion event and
has its pickup reset; a seeded one updates its accumulator and filtered value and, when motion arises, its motion value,
and hands the motion event to the Parameter and Binding Unit. An applied pass does this to each control once, with the
deadband of its binding; ReferencesHoldOrApplyThePass says the order, and what a moment of the link finds between two of
them. -/
def Obligations.ControlsAreFilteredAndMoved : Prop :=
  (∀ (c : ControlId) (s : State),
    let f := s.pns.filters[c]
    let put := fun g : Filter => s.modPns fun x => { x with filters := upd x.filters c fun _ => g }
    (f.provisional = none → evaluateControl s c = s) ∧
    ∀ r : Nat, f.provisional = some r →
      (f.seeded = false → evaluateControl s c = resetPickup (put ⟨none, true, 4 * r, some (r / 4), some (r / 4)⟩) c) ∧
      (∀ m : Nat, f.seeded = true → f.motion = some m →
        let a := f.acc - f.acc / 4 + r
        let v := a / 16
        let moves := s.pbu.bindings[c].deadband < ((v : Int) - m).natAbs ∨ ((v = 0 ∨ v = 1023) ∧ v ≠ m)
        (moves → evaluateControl s c = motionEvent c v (put ⟨none, true, a, some v, some v⟩)) ∧
        (¬ moves → evaluateControl s c = put ⟨none, true, a, some v, some m⟩))) ∧
  ∀ (raw : BitVec 12) (s : State), s.pns.position = .refHigh → s.stu.tests[(1 : Fin 3)] = false →
    (s.pns.refLow.tested = true ∨ 960 ≤ s.pns.refLow.reading ∧ s.pns.refLow.reading ≤ 1088) →
    3008 ≤ raw.toNat → raw.toNat ≤ 3136 →
    ∃ t, exec (.referenceConversion ⟨raw, none⟩) s = .next (arbitrate t) ∧
      ∀ (c : ControlId) (r : Nat), s.pns.filters[c].provisional = some r →
        (s.pns.filters[c].seeded = false → t.pns.filters[c] = ⟨none, true, 4 * r, some (r / 4), some (r / 4)⟩) ∧
        (∀ m : Nat, s.pns.filters[c].seeded = true → s.pns.filters[c].motion = some m →
          let a := s.pns.filters[c].acc - s.pns.filters[c].acc / 4 + r
          let v := a / 16
          let moves := s.pbu.bindings[c].deadband < ((v : Int) - m).natAbs ∨ ((v = 0 ∨ v = 1023) ∧ v ≠ m)
          t.pns.filters[c] = ⟨none, true, a, some v, some (if moves then v else m)⟩)

/-- R115, R116, R117, R119: READBACK_CONVERSION_DONE judges the reading against the latched code of the pointer's output. A
match advances the pointer; a first mismatch counts a glitch and retries; a second sets READBACK, disables the voice of a
voice output (`disableVoice`; VerdictsEndAVoice and SetVoiceEnableActs say what it does) and advances; a tested check compares
with the shifted expectation, forces the flag outside it, and leaves the pointer and Retry. Before its visit the conversion
does not take place (log 4); the marks of the visit and of the test are the model's (log 15). -/
def Obligations.ReadbackChecksTheLatchedCode : Prop :=
  ∀ (raw : BitVec 12) (s : State),
    let run := exec (.readbackConversionDone raw) s
    let j := s.pns.pointer
    let code := s.cvo.latched[j]
    let e : Int := (code / 16 : Nat)
    let reading : Int := raw.toNat
    let near := fun x : Int => x - 48 ≤ reading ∧ reading ≤ x + 48
    let shifted := if code < 32768 then e + 128 else e - 128
    let stays := fun t : State => t.vas = s.vas ∧ t.cvo = s.cvo
    (¬ (s.pns.position = .readback ∧ s.pns.visited = true) → run = .next s) ∧
    (s.pns.position = .readback → s.pns.visited = true → ∃ t, run = .next (arbitrate t) ∧
      t.pns = { s.pns with position := .idle, visited := false, readbackTested := false,
                           pointer := t.pns.pointer, retry := t.pns.retry } ∧
      t.pbu = s.pbu ∧ t.pmc = s.pmc ∧ t.tun.tables = s.tun.tables ∧
      (let kept := t.pns.pointer = j ∧ t.pns.retry = s.pns.retry
       let next := t.pns.pointer.val = (j.val + 1) % 136 ∧ t.pns.retry = false
       (s.pns.readbackTested = true → kept ∧ (NoPass s → stays t) ∧
        t.stu.flags[fReadback].isSet = (s.stu.flags[fReadback].isSet || decide (¬ near shifted)) ∧
        t.stu.counters[cReadbackGlitches] = s.stu.counters[cReadbackGlitches]) ∧
       (s.pns.readbackTested = false →
        (near e → next ∧ t.stu = s.stu ∧ (NoPass s → stays t)) ∧
        (¬ near e → s.pns.retry = false → t.pns.pointer = j ∧ t.pns.retry = true ∧ (NoPass s → stays t) ∧
          t.stu.flags[fReadback] = s.stu.flags[fReadback] ∧
          t.stu.counters[cReadbackGlitches] = s.stu.counters[cReadbackGlitches] + 1) ∧
        (¬ near e → s.pns.retry = true → next ∧ t.stu.flags[fReadback] = ⟨true, false⟩ ∧
          t.stu.counters[cReadbackGlitches] = s.stu.counters[cReadbackGlitches] ∧
          (128 ≤ j.val → NoPass s → stays t) ∧
          (∀ v : VoiceId, j.val / 8 = v.val → (t.voice v).state = .disabled ∧
            ((s.voice v).state ≠ .disabled → t.cvo.gates[v] = false ∧ t.cvo.glide[v] = none ∧
              t.stu.flags[fVoiceDisabled] = ⟨true, false⟩) ∧
            let after := settlePass s (disableVoice v s)
            t.vas = after.vas ∧ t.cvo = after.cvo ∧ t.tun = after.tun)))))

/-! ### Parameters, bindings and pickup (Section 6) -/

/-- R132, R133: the pickup state that a bound control's binding, filtered value and present parameter value q warrant. -/
abbrev warrantedPickup (b : Binding) (filtered : Option Nat) (q : Nat) : Pickup :=
  let size := paramTable[b.index].max - paramTable[b.index].min + 1
  let window := size * 8 / 1024
  match b.mode, filtered with
  | .jump, _ | .pickup, none => .locked
  | .pickup, some v =>
    let x := v * size / 1024 + paramTable[b.index].min
    if q + window < x then .waitAbove else if x + window < q then .waitBelow else .locked

/-- R124, R123, R126, R134, R125: SET_PARAM clamps and stores, counts and marks a different value, silences the part when
VOICE_MODE or UNISON_COUNT changes, with its PART_SILENT (R49), resets the pickup of the controls bound to the parameter
and replies with the value as stored; GET_PARAM reports the value and the edit record and changes nothing; both refuse a
part above 3 and an index above 23. -/
def Obligations.ParametersAreWrittenAndRead : Prop :=
  ∀ (tag part index : Byte) (value : BitVec 16) (s : State), Ready s →
    let set := exec (.setParam tag part index value) s
    let get := exec (.getParam tag part index) s
    (3 < part.toNat ∨ 23 < index.toNat →
      set = .next (answered 0x1A tag .badValue [] s) ∧ get = .next (answered 0x1B tag .badValue [] s)) ∧
    ∀ (p : PartId) (i : ParamId), part = byte p → index = byte i →
      let edit := s.pbu.edits[p]
      get = .next (answered 0x1B tag .ok ([part, index] ++ word (s.param p i) ++ [(if edit.edited then 1 else 0 : Byte)] ++
        bytes16 edit.count ++ word (match edit.slot with | some t => t.val | none => 0xFFFF)) s) ∧
      let new := max paramTable[i].min (min paramTable[i].max value.toNat)
      let differs := new ≠ s.param p i
      ∃ t, set = .next (answered 0x1A tag .ok ([part, index] ++ word new) t) ∧
        (∀ q k, t.param q k = if q = p ∧ k = i then new else s.param q k) ∧
        (∀ q : PartId, t.pbu.edits[q] =
          if q = p ∧ differs then { edit with edited := true, count := edit.count + 1 } else s.pbu.edits[q]) ∧
        t.pbu.bindings = s.pbu.bindings ∧ t.pbu.focus = s.pbu.focus ∧
        (∀ c : ControlId,
          let b := s.pbu.bindings[c]
          t.pbu.pickups[c] =
            if (b.target = .part p ∨ (b.target = .focus ∧ s.pbu.focus = p)) ∧ b.index = i then
              warrantedPickup b s.pns.filters[c].filtered new
            else s.pbu.pickups[c]) ∧
        t.pmc = s.pmc ∧ t.pns = s.pns ∧ t.tun = s.tun ∧
        (¬ (differs ∧ i.val ≤ 1) → t.vas = s.vas ∧ t.cvo = s.cvo ∧ t.stu = s.stu ∧ t.lnk.notices = s.lnk.notices) ∧
        (differs → i.val ≤ 1 →
          t.part p = { s.part p with held := [], start := none, active := [],
                                     free := (s.part p).free ++ (s.part p).active } ∧
          (∀ q, q ≠ p → t.part q = s.part q) ∧ ∀ v ∈ (s.part p).active, (t.voice v).state = .released) ∧
        t = withSilence s (fun q => decide (q = p)) { t with lnk := s.lnk, stu := s.stu }

/-- R129, R130, R133: BIND_CONTROL replaces the binding, resets the control's pickup and replies with both; it refuses the
fields R129 lists. GET_CONTROL reports the binding, the pickup state, the filtered, motion and scaled values, and changes
nothing. -/
def Obligations.ControlsAreBoundAndRead : Prop :=
  ∀ (tag control target part index mode deadband report : Byte) (s : State), Ready s →
    let bind := exec (.bindControl tag control target part index mode deadband report) s
    let get := exec (.getControl tag control) s
    (95 < control.toNat ∨ 2 < target.toNat ∨ (target = 1 ∧ 3 < part.toNat) ∨ 23 < index.toNat ∨ 1 < mode.toNat ∨
      1 < report.toNat → bind = .next (answered 0x1C tag .badValue [] s)) ∧
    (95 < control.toNat → get = .next (answered 0x1D tag .badValue [] s)) ∧
    ∀ c : ControlId, control = byte c →
      (∀ (i : ParamId) (aim : Target), index = byte i → mode.toNat ≤ 1 → report.toNat ≤ 1 →
        (match aim with
          | .unbound => target = 0
          | .part p => target = 1 ∧ part = byte p
          | .focus => target = 2) →
        let b : Binding := ⟨aim, i, if mode = 1 then .pickup else .jump, min deadband.toNat 15, decide (report = 1)⟩
        let v := s.pns.filters[c].filtered
        let k := match aim with
          | .unbound => Pickup.locked
          | .part p => warrantedPickup b v (s.param p i)
          | .focus => warrantedPickup b v (s.param s.pbu.focus i)
        bind = .next (answered 0x1C tag .ok
          [control, target, if target = 1 then part else 0, index, mode, byte (min deadband.toNat 15), report, k.code]
          (s.modPbu fun x => { x with bindings := upd x.bindings c (fun _ => b), pickups := upd x.pickups c (fun _ => k) }))) ∧
      (let b := s.pbu.bindings[c]
       let f := s.pns.filters[c]
       let size := paramTable[b.index].max - paramTable[b.index].min + 1
       let scaledNow : Option Nat := if b.target = .unbound then none else
        f.filtered.map fun v => v * size / 1024 + paramTable[b.index].min
       get = .next (answered 0x1D tag .ok
        ([b.target.codes.1, b.target.codes.2, byte b.index, b.mode.code, byte b.deadband, (if b.report then 1 else 0 : Byte),
          s.pbu.pickups[c].code, byte (f.filtered.isSome.toNat + 2 * scaledNow.isSome.toNat)] ++
          word (f.filtered.getD 0) ++ word (f.motion.getD 0) ++ word (scaledNow.getD 0)) s))

/-- R132, R136, R137, R139: what a motion event does: a control bound to nothing writes nothing; a LOCKED or locking control
writes its scaled value and is LOCKED, with the PART_SILENT of a part so silenced (R49); a waiting one writes nothing; a
report goes in the control's place in the report set, or behind it, when the binding and the notice mask let it. The scaled
value lies in the parameter's range and reaches both its ends. -/
def Obligations.MotionEventsWriteOrWait : Prop :=
  (∀ (i : ParamId) (v : Nat), v ≤ 1023 →
    paramTable[i].min ≤ scaled i v ∧ scaled i v ≤ paramTable[i].max ∧ scaled i 0 = paramTable[i].min ∧
    scaled i 1023 = paramTable[i].max) ∧
  ∀ (c : ControlId) (v : Nat) (s : State), v ≤ 1023 →
    let b := s.pbu.bindings[c]
    let t := motionEvent c v s
    let reports := fun (k : Pickup) (applied : Bool) =>
      let r : Report := ⟨c, v, k, applied⟩
      if b.report = true ∧ s.stu.noticeMask.getLsbD 0 = false then
        if ∃ x ∈ s.lnk.reports, x.control = c then s.lnk.reports.map fun x => if x.control = c then r else x
        else s.lnk.reports ++ [r]
      else s.lnk.reports
    (b.target = .unbound → t = s.modLnk fun l => { l with reports := reports .locked false }) ∧
    ∀ p : PartId, b.target = .part p ∨ (b.target = .focus ∧ s.pbu.focus = p) →
      let x := scaled b.index v
      let q := s.param p b.index
      let w := (paramTable[b.index].max - paramTable[b.index].min + 1) * 8 / 1024
      let k := s.pbu.pickups[c]
      let acts := k = .locked ∨ (k = .waitAbove ∧ x ≤ q + w) ∨ (k = .waitBelow ∧ q ≤ x + w)
      (¬ acts → t = s.modLnk fun l => { l with reports := reports k false }) ∧
      (acts → t.lnk.reports = reports .locked true ∧ t.pns = s.pns ∧ t.pmc = s.pmc ∧ t.tun = s.tun ∧
        t.pbu = { s.pbu with
          pickups := upd s.pbu.pickups c (fun _ => .locked),
          live := upd s.pbu.live p (fun l => upd l b.index fun _ => x),
          edits := upd s.pbu.edits p fun e => if x = q then e else { e with edited := true, count := e.count + 1 } } ∧
        (x = q ∨ 2 ≤ b.index.val → t.vas = s.vas ∧ t.cvo = s.cvo ∧ t.stu = s.stu ∧ t.lnk.notices = s.lnk.notices) ∧
        (x ≠ q → b.index.val ≤ 1 → (t.part p).held = [] ∧ (t.part p).start = none ∧ (t.part p).active = []) ∧
        let quiet := withSilence s (fun q => decide (q = p)) { t with lnk := s.lnk, stu := s.stu }
        t = { quiet with lnk := { quiet.lnk with reports := t.lnk.reports } })

/-! ### The Patch Memory Controller (Section 7) -/

/-- R150, R151, R153, R127, R134: RECALL makes the part's record, superseding one it holds with its RECALL_DONE, and waits
while the bank is blocked. At the end of its page read an EMPTY or a CORRUPT slot leaves the part untouched, the latter with
RECALL_CRC; a VALID one writes the 24 clamped parameters, clears the edited flag, names the slot, resets the pickup of the
controls bound to the part, silences the part when VOICE_MODE or UNISON_COUNT changes, with its PART_SILENT (R49), counts
in RECALLS, and then offers RECALL_DONE(OK). A read that no record has in progress has no end (log 4). -/
def Obligations.RecallLoadsTheSlot : Prop :=
  (∀ (tag part : Byte) (slot : BitVec 16) (s : State), Ready s →
    let run := exec (.recallSlot tag part slot) s
    (3 < part.toNat ∨ 511 < slot.toNat → run = .next (answered 0x20 tag .badValue [] s)) ∧
    ∀ (p : PartId) (l : SlotId), part = byte p → slot = BitVec.ofNat 16 l →
      let r : Recall := ⟨l, tag, if s.pmc.banks[bankOf l].blocked then .waiting else .reading⟩
      let put := fun t : State => t.modPmc fun x => { x with recalls := upd x.recalls p fun _ => some r }
      (s.pmc.recalls[p] = none → run = .next (answered 0x20 tag .ok [] (put s))) ∧
      ∀ old, s.pmc.recalls[p] = some old →
        run = .next (answered 0x20 tag .ok [] (put (offerNotice (.recallDone p old.slot .superseded old.tag) s)))) ∧
  ∀ (p : PartId) (s : State),
    let run := exec (.recallReadDone p) s
    let gone := s.modPmc fun x => { x with recalls := upd x.recalls p fun _ => none }
    (s.pmc.recalls[p] = none → run = .next s) ∧
    ∀ r, s.pmc.recalls[p] = some r →
      let page := s.pmc.memory.page (slotPage r.slot)
      let done := fun outcome => Notice.recallDone p r.slot outcome r.tag
      (r.phase = .waiting → run = .next s) ∧
      (r.phase = .reading →
        (page[0] = 0xFF → run = .next (arbitrate (offerNotice (done .empty) gone))) ∧
        (page[0] ≠ 0xFF → ¬ (page[0] = 0x5A ∧ checkGood page = true) →
          run = .next (arbitrate (offerNotice (done .corrupt) (setFault fRecallCrc gone)))) ∧
        (page[0] = 0x5A → checkGood page = true → ∃ t, run = .next (arbitrate t) ∧
          let new := fun i : ParamId => max paramTable[i].min (min paramTable[i].max
            (joinBytes page[14 + 2 * i.val] page[15 + 2 * i.val]).toNat)
          let changed := ((List.finRange 24).filter fun i => new i ≠ s.param p i).length
          t.pmc = gone.pmc ∧ t.pns = s.pns ∧ t.tun = s.tun ∧ t.pbu.bindings = s.pbu.bindings ∧
          t.pbu.focus = s.pbu.focus ∧
          (∀ q i, t.param q i = if q = p then new i else s.param q i) ∧
          (∀ q : PartId, t.pbu.edits[q] =
            if q = p then ⟨false, s.pbu.edits[p].count + BitVec.ofNat 16 changed, some r.slot⟩ else s.pbu.edits[q]) ∧
          (∀ c : ControlId,
            let b := s.pbu.bindings[c]
            t.pbu.pickups[c] = if b.target = .part p ∨ (b.target = .focus ∧ s.pbu.focus = p) then
              warrantedPickup b s.pns.filters[c].filtered (new b.index) else s.pbu.pickups[c]) ∧
          t.stu.counters[cRecalls] = s.stu.counters[cRecalls] + 1 ∧
          t = offerNotice (done .ok) (countUp cRecalls
            (withSilence s (fun q => decide (q = p)) { t with lnk := s.lnk, stu := s.stu })) ∧
          (new pVoiceMode = s.param p pVoiceMode → new pUnisonCount = s.param p pUnisonCount → t.vas = s.vas) ∧
          (new pVoiceMode ≠ s.param p pVoiceMode ∨ new pUnisonCount ≠ s.param p pUnisonCount →
            (t.part p).held = [] ∧ (t.part p).start = none ∧ (t.part p).active = [])))

/-- R155, R158, R162, R163, R164 with R145, R147, R154: each request that starts a write is checked in its rule's order,
refused without a change, and otherwise accepted: the engine takes the operation with its image fixed, the bank of a STORE,
COMMIT or WIPE becomes blocked and its READING recalls wait. That WIPE_BANK judges its bank before the engine is the
model's choice (log 33). R208, R144: each image has its format's tag and a good check, and its fields read back as they
were written: the category, the name and the parameters of a patch; the voice, the corrections of both oscillators and the
disabled mark of a tuning page; the levels of the protection page; the other bytes are 0. -/
def Obligations.WritesAreCheckedAndBegun : Prop :=
  (∀ (category : Byte) (name : Vector Byte 12) (live : Vector Nat 24),
    let page := patchPage category name live
    page[0] = 0x5A ∧ checkGood page = true ∧ page[1] = category ∧ (∀ k : Fin 12, page[2 + k.val] = name[k]) ∧
    ∀ i : ParamId, live[i] < 65536 → (joinBytes page[14 + 2 * i.val] page[15 + 2 * i.val]).toNat = live[i]) ∧
  (∀ (v : VoiceId) (a b : Vector Int 12) (off : Bool),
    let page := tuningPage v a b off
    page[0] = 0x6C ∧ checkGood page = true ∧ page[1] = byte v ∧ page[50] = (if off then 1 else 0) ∧
    (∀ k : Fin 11, page[51 + k.val] = 0) ∧
    ∀ k : Fin 12,
      (InCorrectionRange a[k] → (joinBytes page[2 + 2 * k.val] page[3 + 2 * k.val]).toInt = a[k]) ∧
      (InCorrectionRange b[k] → (joinBytes page[26 + 2 * k.val] page[27 + 2 * k.val]).toInt = b[k])) ∧
  (∀ a b : Fin 3,
    let page := protectionPage a b
    page[0] = 0x50 ∧ checkGood page = true ∧ page[1] = byte a ∧ page[2] = byte b ∧ ∀ k : Fin 59, page[3 + k.val] = 0) ∧
  ∀ (tag : Byte) (s : State), Ready s →
    let busy := s.pmc.engine.operation ≠ none
    let engine := fun (op : WriteOp) (target : WriteTarget) (image : List Page) (snapshot : Option (PartId × BitVec 16)) =>
      ({ operation := some op, target := target, tag := tag, image := image, snapshot := snapshot, progress := 0,
         verifyFail := false, resetWaiting := false } : Engine)
    let blocking := fun (b : BankId) (e : Engine) =>
      { s.pmc with
        engine := e, banks := upd s.pmc.banks b fun x => { x with blocked := true },
        recalls := Vector.ofFn fun p => s.pmc.recalls[p].map fun r =>
          if bankOf r.slot = b ∧ r.phase = .reading then { r with phase := .waiting } else r }
    (∀ (part category : Byte) (slot : BitVec 16) (name : Vector Byte 12),
      let run := exec (.store tag part slot category name) s
      let legal := category.toNat ≤ 15 ∧ ∀ c ∈ name.toList, 0x20 ≤ c.toNat ∧ c.toNat ≤ 0x7E
      (3 < part.toNat ∨ 511 < slot.toNat ∨ ¬ legal → run = .next (answered 0x21 tag .badValue [] s)) ∧
      ∀ (p : PartId) (l : SlotId), part = byte p → slot = BitVec.ofNat 16 l → legal →
        (s.pmc.banks[bankOf l].level ≠ 0 → run = .next (answered 0x21 tag .denied [] s)) ∧
        (s.pmc.banks[bankOf l].level = 0 → busy → run = .next (answered 0x21 tag .busy [] s)) ∧
        (s.pmc.banks[bankOf l].level = 0 → ¬ busy → run = .next (answered 0x21 tag .ok [] { s with
          pmc := blocking (bankOf l) (engine .store (.slot l) [patchPage category name s.pbu.live[p]]
            (some (p, s.pbu.edits[p].count))) }))) ∧
    (∀ slot : BitVec 16,
      let run := exec (.uploadCommit tag slot) s
      let image := stagedPage s.pmc.staging
      let loaded := ∀ k : Fin 4, s.pmc.staging.loaded[k] = true
      let valid := image[0] = 0x5A ∧ checkGood image = true
      (511 < slot.toNat → run = .next (answered 0x23 tag .badValue [] s)) ∧
      ∀ l : SlotId, slot = BitVec.ofNat 16 l →
        (¬ loaded → run = .next (answered 0x23 tag .incomplete [] s)) ∧
        (loaded → s.pmc.staging.committing = true → run = .next (answered 0x23 tag .busy [] s)) ∧
        (loaded → s.pmc.staging.committing = false →
          (¬ valid → run = .next (answered 0x23 tag .badImage [] s)) ∧
          (valid → s.pmc.banks[bankOf l].level ≠ 0 → run = .next (answered 0x23 tag .denied [] s)) ∧
          (valid → s.pmc.banks[bankOf l].level = 0 → busy → run = .next (answered 0x23 tag .busy [] s)) ∧
          (valid → s.pmc.banks[bankOf l].level = 0 → ¬ busy → run = .next (answered 0x23 tag .ok [] { s with
            pmc := { blocking (bankOf l) (engine .commit (.slot l) [image] none) with
              staging := { s.pmc.staging with committing := true } } })))) ∧
    (∀ bank level : Byte,
      let run := exec (.protect tag bank level) s
      (1 < bank.toNat ∨ 2 < level.toNat → run = .next (answered 0x26 tag .badValue [] s)) ∧
      ∀ (b : BankId) (l : Fin 3), bank = byte b → level = byte l →
        let now := s.pmc.banks[b].level
        (l < now → run = .next (answered 0x26 tag .badValue [] s)) ∧
        (l = now → run = .next (answered 0x26 tag .ok [] s)) ∧
        (now < l → busy → run = .next (answered 0x26 tag .busy [] s)) ∧
        (now < l → ¬ busy →
          let banks := upd s.pmc.banks b fun x => { x with level := l }
          run = .next (answered 0x26 tag .ok [] (s.modPmc fun x => { x with
            banks := banks, engine := engine .protect (.bank b) [protectionPage banks[0].level banks[1].level] none })))) ∧
    (∀ bank : Byte,
      let run := exec (.wipeBank tag bank) s
      (1 < bank.toNat → run = .next (answered 0x27 tag .badValue [] s)) ∧
      ∀ b : BankId, bank = byte b →
        (busy → run = .next (answered 0x27 tag .busy [] s)) ∧
        (¬ busy → run = .next (answered 0x27 tag .ok [] { s with pmc := blocking b (engine .wipe (.bank b) [] none) }))) ∧
    (busy → exec (.saveTuning tag) s = .next (answered 0x32 tag .busy [] s)) ∧
    (¬ busy → exec (.saveTuning tag) s = .next (answered 0x32 tag .ok [] (s.modPmc fun x => { x with
      engine := engine .saveTuning .nothing (allVoices.map fun v =>
        tuningPage v s.tun.tables[oscA v] s.tun.tables[oscB v] ((s.voice v).state = .disabled)) none })))

/-- R157, R159: UPLOAD_CHUNK fills an unloaded chunk and marks it loaded; UPLOAD_CLEAR empties the staging buffer unless a
commit from it is in flight; a refused request changes nothing. -/
def Obligations.StagingIsLoadedAndCleared : Prop :=
  ∀ (tag index : Byte) (chunk : Vector Byte 16) (s : State), Ready s →
    let load := exec (.uploadChunk tag index chunk) s
    let clear := exec (.uploadClear tag) s
    let staging := fun x : Staging => s.modPmc fun m => { m with staging := x }
    (3 < index.toNat → load = .next (answered 0x22 tag .badValue [] s)) ∧
    (∀ k : Fin 4, index = byte k →
      (s.pmc.staging.loaded[k] = true → load = .next (answered 0x22 tag .alreadyLoaded [] s)) ∧
      (s.pmc.staging.loaded[k] = false → load = .next (answered 0x22 tag .ok [] (staging { s.pmc.staging with
        chunks := upd s.pmc.staging.chunks k (fun _ => chunk),
        loaded := upd s.pmc.staging.loaded k (fun _ => true) })))) ∧
    (s.pmc.staging.committing = true → clear = .next (answered 0x24 tag .busy [] s)) ∧
    (s.pmc.staging.committing = false → clear = .next (answered 0x24 tag .ok [] (staging
      { chunks := Vector.replicate 4 (Vector.replicate 16 0), loaded := Vector.replicate 4 false,
        committing := false })))

/-- R160, R161: EXPORT and GET_SLOT_INFO are refused as their rules state, otherwise start a page read with the reply slot
PENDING; at its end the reply carries the chunk, or the status, the labels and the bank's level. The page store and every
flag and counter stay. A read not in progress has no end (log 4). -/
def Obligations.PageReadsAnswer : Prop :=
  (∀ (tag chunk : Byte) (slot : BitVec 16) (s : State), Ready s →
    let exporting := exec (.exportSlot tag slot chunk) s
    let info := exec (.getSlotInfo tag slot) s
    (511 < slot.toNat ∨ 3 < chunk.toNat → exporting = .next (answered 0x25 tag .badValue [] s)) ∧
    (511 < slot.toNat → info = .next (answered 0x28 tag .badValue [] s)) ∧
    ∀ l : SlotId, slot = BitVec.ofNat 16 l →
      let bank := s.pmc.banks[bankOf l]
      (bank.blocked = true → info = .next (answered 0x28 tag .busy [] s)) ∧
      (bank.blocked = false → info = .next (arbitrate ((asked 0x28 tag s).modPmc fun x =>
        { x with pageRead := some (.slotInfo l) }))) ∧
      ∀ k : Fin 4, chunk = byte k →
        (bank.level = 2 → exporting = .next (answered 0x25 tag .denied [] s)) ∧
        (bank.level ≠ 2 → bank.blocked = true → exporting = .next (answered 0x25 tag .busy [] s)) ∧
        (bank.level ≠ 2 → bank.blocked = false → exporting = .next (arbitrate ((asked 0x25 tag s).modPmc fun x =>
          { x with pageRead := some (.exporting l k) })))) ∧
  ∀ s : State,
    let ended := s.modPmc fun x => { x with pageRead := none }
    ((∀ l k, s.pmc.pageRead ≠ some (.exporting l k)) → exec .exportReadDone s = .next s) ∧
    ((∀ l, s.pmc.pageRead ≠ some (.slotInfo l)) → exec .slotInfoReadDone s = .next s) ∧
    ∀ (tag : Byte) (l : SlotId),
      let page := s.pmc.memory.page (slotPage l)
      (∀ k : Fin 4, s.lnk.slot = .pending 0x25 tag → s.pmc.pageRead = some (.exporting l k) →
        exec .exportReadDone s = .next
          (if page[0] = 0xFF then answered 0x25 tag .empty [] ended
           else answered 0x25 tag .ok (List.ofFn fun i : Fin 16 => page[16 * k.val + i.val]) ended)) ∧
      (s.lnk.slot = .pending 0x28 tag → s.pmc.pageRead = some (.slotInfo l) →
        exec .slotInfoReadDone s = .next (answered 0x28 tag .ok
          ((if page[0] = 0xFF then 0 else if page[0] = 0x5A ∧ checkGood page = true then 1 else 2 : Byte) ::
            ((List.ofFn fun i : Fin 13 => if page[0] = 0xFF then 0 else page[i.val + 1]) ++
              [byte s.pmc.banks[bankOf l].level])) ended))

/-- R148, R149, R156, R159, R163, R165: PAGE_WRITE_DONE leaves the page's image, or on a mismatch the page read back with its
first byte 00h, VERIFY_FAIL and WRITE_VERIFY; that the operand is the page as it reads back, and that the 00h goes over it,
is the model's choice (log 13). SAVE_TUNING goes on to its next page, and the last page completes the operation: its own
step, WRITES, the bank free again and its waiting recalls READING, the engine idle; with Reset waiting the reset takes
effect instead. PAGE_ERASE_DONE erases the next slot page of a wipe, whose protection page image is built when the erase
phase ends (log 30). Every other page keeps its bytes; with no page in progress nothing changes (log 4). -/
def Obligations.PagesAreWrittenAndErased : Prop :=
  ∀ (readBack : Option Page) (s : State), StoreCanonical s →
    let e := s.pmc.engine
    let run := exec (.pageWriteDone readBack) s
    let only := fun (t : State) (p : PageNo) (page : Page) =>
      t.pmc.memory.page p = page ∧ ∀ q, q ≠ p → t.pmc.memory.page q = s.pmc.memory.page q
    (writingPage e = none → run = .next s) ∧
    (∀ (p : PageNo) (image : Page), writingPage e = some (p, image) →
      let read := readBack.getD image
      let failed := e.verifyFail || decide (read ≠ image)
      let last := ¬ (e.operation = some .saveTuning ∧ e.progress < 15)
      ∃ t, run = .next (arbitrate t) ∧ only t p (if read = image then image else read.set 0 0) ∧
        (¬ (last ∧ e.resetWaiting = true) → t.vas = s.vas ∧ t.cvo = s.cvo ∧ t.tun = s.tun ∧ t.pns = s.pns ∧
          t.stu.flags[fWriteVerify] = (if read = image then s.stu.flags[fWriteVerify] else ⟨true, false⟩)) ∧
        (¬ last → t.pmc.engine = { e with progress := e.progress + 1, verifyFail := failed } ∧ t.pbu = s.pbu ∧
          t.pmc.banks = s.pmc.banks ∧ t.pmc.recalls = s.pmc.recalls ∧ t.pmc.staging = s.pmc.staging) ∧
        (last → e.resetWaiting = true → t = { State.reset with
          phase := .loading, pmc := Pmc.reset t.pmc.memory, freeDraws := s.freeDraws, pending := s.pending }) ∧
        (last → e.resetWaiting = false → t.pmc.engine = Engine.reset ∧
          t.stu.counters[cWrites] = s.stu.counters[cWrites] + 1 ∧
          t.pmc.staging = (if e.operation = some .commit then Staging.reset else s.pmc.staging) ∧
          t.pbu = { s.pbu with edits := Vector.ofFn fun q =>
            match e.operation, e.snapshot, e.target with
            | some .store, some (p, count), .slot l =>
              let x := s.pbu.edits[q]
              if q = p ∧ failed = false then
                { x with slot := some l, edited := if x.count = count then false else x.edited } else x
            | _, _, _ => s.pbu.edits[q] } ∧
          (∀ b : BankId,
            let freed := blockedBank e = some b
            t.pmc.banks[b].blocked = (if freed then false else s.pmc.banks[b].blocked) ∧
            t.pmc.banks[b].level = if e.operation = some .wipe ∧ freed then 0 else s.pmc.banks[b].level) ∧
          (∀ q : PartId, t.pmc.recalls[q] = s.pmc.recalls[q].map fun r =>
            if blockedBank e = some (bankOf r.slot) ∧ r.phase = .waiting then { r with phase := .reading } else r) ∧
          (∀ op, e.operation = some op → read = image → s.stu.counters[cWrites] ≠ 49151 → s.lnk.notices.length < 24 →
            t.lnk.notices = s.lnk.notices ++ [(s.lnk.seq, .writeDone op e.target e.verifyFail e.tag)]))) ∧
    (erasingPage e = none → exec .pageEraseDone s = .next s) ∧
    (∀ (b : BankId) (k : Fin 256), e.operation = some .wipe → e.target = .bank b → e.image = [] → e.progress = k.val →
      ∃ t, exec .pageEraseDone s = .next t ∧ only t ⟨256 * b.val + k.val, by omega⟩ (Vector.replicate 64 0xFF) ∧
        let level := fun x : BankId => if x = b then 0 else s.pmc.banks[x].level
        t = { s with pmc := { s.pmc with memory := t.pmc.memory, engine := { e with
          progress := k.val + 1, image := if k.val = 255 then [protectionPage (level 0) (level 1)] else [] } } })

/-! ### The Status Unit's requests (Section 9) -/

/-- R192, R195, R194: GET_FAULTS reports the flags, their test marks, the masks and ALERT, flag n in bit n, and with clear 1
clears every flag after they are read; SET_MASKS replaces the masks and brings ALERT up to date; each refuses a value out
of range. -/
def Obligations.FaultsAndMasksAreRequested : Prop :=
  ∀ (tag clear : Byte) (flagMask : BitVec 16) (categoryMask noticeMask : Byte) (s : State), Ready s →
    let get := exec (.getFaults tag clear) s
    let set := exec (.setMasks tag flagMask categoryMask noticeMask) s
    let u := s.stu
    let line := fun alert : Bool => if alert then (1 : Byte) else 0
    (1 < clear.toNat → get = .next (answered 0x38 tag .badValue [] s)) ∧
    (clear.toNat ≤ 1 → ∃ flags marks : BitVec 16,
      (∀ f : FlagId, flags.getLsbD f.val = u.flags[f].isSet ∧ marks.getLsbD f.val = u.flags[f].testMark) ∧
      flags.toNat < 2048 ∧ marks.toNat < 2048 ∧
      let fields := bytes16 flags ++ bytes16 marks ++ word u.flagMask.toNat ++
        [byte u.categoryMask.toNat, byte u.noticeMask.toNat]
      (clear = 0 → get = .next (answered 0x38 tag .ok (fields ++ [line u.alert]) s)) ∧
      (clear = 1 → get = .next (answered 0x38 tag .ok (fields ++ [0]) (s.modStu fun x =>
        { x with flags := Vector.replicate 11 ⟨false, false⟩, alert := false })))) ∧
    (2048 ≤ flagMask.toNat ∨ 16 ≤ categoryMask.toNat ∨ 32 ≤ noticeMask.toNat →
      set = .next (answered 0x39 tag .badValue [] s)) ∧
    (flagMask.toNat < 2048 → categoryMask.toNat < 16 → noticeMask.toNat < 32 → ∃ alert : Bool,
      (alert = true ↔ ∃ f : FlagId, u.flags[f].isSet = true ∧ flagMask.getLsbD f.val = false ∧
        categoryMask.getLsbD flagCategory[f].val = false) ∧
      set = .next (answered 0x39 tag .ok (bytes16 flagMask ++ [categoryMask, noticeMask, line alert]) (s.modStu fun x =>
        { x with flagMask := BitVec.ofNat 11 flagMask.toNat, categoryMask := BitVec.ofNat 4 categoryMask.toNat,
                 noticeMask := BitVec.ofNat 5 noticeMask.toNat, alert := alert })))

/-- R197, R198, R202: TEST_MONITOR arms a pending test of monitors 0 to 2, makes the test of monitors 5 and 8 at once with
the forced failure of its flag, and refuses any other monitor; GET_COUNTERS reports a run of counters in ascending order,
zeroes it with clear 1, and refuses a run out of range. -/
def Obligations.TestsAndCountersAreRequested : Prop :=
  ∀ (tag : Byte) (s : State), Ready s →
    (∀ (k : Fin 3) (monitor : Byte), monitor = byte k →
      (s.stu.tests[k] = true → exec (.testMonitor tag monitor) s = .next (answered 0x3A tag .ok [1] s)) ∧
      (s.stu.tests[k] = false → exec (.testMonitor tag monitor) s = .next (answered 0x3A tag .ok [0]
        (s.modStu fun u => { u with tests := upd u.tests k fun _ => true })))) ∧
    exec (.testMonitor tag 5) s = .next (answered 0x3A tag .ok [2] (forceFault fRecallCrc s)) ∧
    exec (.testMonitor tag 8) s = .next (answered 0x3A tag .ok [2] (forceFault fFrameCheck s)) ∧
    (∀ monitor : Byte, 2 < monitor.toNat → monitor ≠ 5 → monitor ≠ 8 →
      exec (.testMonitor tag monitor) s = .next (answered 0x3A tag .badValue [] s)) ∧
    ∀ first count clear : Byte,
      let run := exec (.getCounters tag first count clear) s
      let a := first.toNat
      let n := count.toNat
      (19 < a ∨ n = 0 ∨ 12 < n ∨ 20 < a + n ∨ 1 < clear.toNat → run = .next (answered 0x3B tag .badValue [] s)) ∧
      (∀ h : a + n ≤ 20, 0 < n → n ≤ 12 → clear.toNat ≤ 1 →
        let values := (List.finRange n).map fun k => s.stu.counters[a + k.val]
        run = .next (answered 0x3B tag .ok ([first, count] ++ values.flatMap bytes16)
          (if clear = 1 then s.modStu fun u =>
            { u with counters := Vector.ofFn fun c => if a ≤ c.val ∧ c.val < a + n then 0 else u.counters[c] } else s)))

/-! ### Reset and start-up (Section 11) -/

/-- R210, R166: RESETN_ASSERT and LOSS_OF_POWER give every block its After reset values and the phase HELD, and leave every
page but the one in progress; that one is not VALID, nor a good system page, but for a write cut during its read-back,
which leaves the new content. RESETN_RELEASE begins the load from page 0. The model's choices: that power returns with
RESETn asserted (log 11); where the event falls in the write of a page, which the operand says, and the outcome of a cut
that R166 does not name (log 10); the After reset values that the manual does not give (log 16); and that RESETN_RELEASE
out of HELD changes nothing (log 4). -/
def Obligations.ResetHoldsEveryBlock : Prop :=
  ∀ (cut : CutPoint) (s : State), StoreCanonical s →
    let e := s.pmc.engine
    (∃ (m : Memory) (draws : Nat),
      let t := { State.reset with pmc := Pmc.reset m, freeDraws := draws, pending := s.pending }
      exec (.resetnAssert cut) s = .next t ∧ exec (.lossOfPower cut) s = .next t ∧
      (writingPage e = none → erasingPage e = none → m = s.pmc.memory) ∧
      (∀ p, erasingPage e = some p →
        slotStatus (m.page p) ≠ .valid ∧ ∀ q, q ≠ p → m.page q = s.pmc.memory.page q) ∧
      (∀ p image, erasingPage e = none → writingPage e = some (p, image) →
        (∀ q, q ≠ p → m.page q = s.pmc.memory.page q) ∧
        (cut = .programming ∨ e.operation = some .wipe → goodFor p (m.page p) = false) ∧
        (cut = .readBack → e.operation ≠ some .wipe → m.page p = image))) ∧
    (s.phase = .held → exec .resetnRelease s = .next { s with phase := .loading, loadPage := 0 }) ∧
    (s.phase ≠ .held → exec .resetnRelease s = .next s)

/-- R211, R212, R213: in LOADING a good tuning page gives its voice's oscillators their corrections, clamped, and disables
a marked voice; a damaged one gives zeros and sets STARTUP_CRC. The protection page gives the levels, above 2 taken as 2, or
2 for both banks when damaged, with STARTUP_CRC set; either way READY is then offered, the phase is RUNNING, and the first
refresh and scan passes begin. Elsewhere neither read ends (log 4). -/
def Obligations.LoadReadsTheSystemArea : Prop :=
  ∀ s : State,
    let tuning := exec .tuningPageReadDone s
    let protection := exec .protectionPageReadDone s
    (s.phase ≠ .loading ∨ s.loadPage = 16 → tuning = .next s) ∧
    (s.phase ≠ .loading ∨ s.loadPage ≠ 16 → protection = .next s) ∧
    (∀ v : VoiceId, s.phase = .loading → s.loadPage.val = v.val → ∃ t, tuning = .next (arbitrate t) ∧
      let page := s.pmc.memory.page (tuningPageNo v)
      let good := page[0] = 0x6C ∧ checkGood page = true
      let stored := fun (k : Nat) (h : k < 63) => clampInt (-4096) 4095 (joinBytes page[k] page[k + 1]).toInt
      let table := fun o : OscId =>
        if o = oscA v then (if good then Vector.ofFn fun b : Fin 12 => stored (2 + 2 * b.val) (by omega)
          else Vector.replicate 12 0)
        else if o = oscB v then (if good then Vector.ofFn fun b : Fin 12 => stored (26 + 2 * b.val) (by omega)
          else Vector.replicate 12 0)
        else s.tun.tables[o]
      t.tun.tables = Vector.ofFn table ∧ t.loadPage.val = v.val + 1 ∧ t.phase = .loading ∧ t.pmc = s.pmc ∧
      t.pbu = s.pbu ∧ t.pns = s.pns ∧
      (good → page[50].getLsbD 0 = true → (t.voice v).state = .disabled ∧
        ∀ p, (s.voice v).part = some p → v ∉ (t.part p).free) ∧
      (good → page[50].getLsbD 0 = false → t.vas = s.vas) ∧ (good → t.stu = s.stu) ∧
      (¬ good → t.vas = s.vas ∧ t.stu.flags[fStartupCrc] = ⟨true, false⟩)) ∧
    (s.phase = .loading → s.loadPage = 16 → ∃ t, protection = .next (arbitrate t) ∧
      let page := s.pmc.memory.page protectionPageNo
      let good := page[0] = 0x50 ∧ checkGood page = true
      t.pmc = { s.pmc with banks := Vector.ofFn fun b => { s.pmc.banks[b] with
        level := if good then ⟨min (if b = 0 then page[1] else page[2]).toNat 2, by omega⟩ else 2 } } ∧
      t.phase = .running ∧ t.cvo = { s.cvo with passTimer := some 1, position := some 0 } ∧
      t.pns = { s.pns with scanTimer := some s.pns.scanPeriod, position := .switches, visited := false } ∧
      t.vas = s.vas ∧ t.tun = s.tun ∧ t.pbu = s.pbu ∧
      (good → t.stu = s.stu ∨ 24 ≤ s.lnk.notices.length) ∧
      (good → s.lnk.notices.length < 24 → t.lnk = { s.lnk with
        notices := s.lnk.notices ++ [(s.lnk.seq, .ready)], seq := s.lnk.seq + 1 }) ∧
      (¬ good → t.stu.flags[fStartupCrc] = ⟨true, false⟩) ∧
      let loaded := { s with pmc := t.pmc }
      t = { offerNotice .ready (if good then loaded else setFault fStartupCrc loaded) with
        phase := .running, cvo := t.cvo, pns := t.pns })

/-! ### What every step keeps -/

/-- R194, R173, R181, R182: every step keeps ALERT as the flags and masks say it, and the link's queues within their
bounds. -/
def Obligations.StepsKeepAlertAndQueues : Prop :=
  ∀ s t : State, step s = .next t →
    (AlertFollowsFlags s → AlertFollowsFlags t) ∧ (QueuesBounded s → QueuesBounded t)

/-- R2, R3, R69: every step keeps each gate line high exactly while its voice is GATED, and every voice record coherent: its
timers run exactly in their states, and key_held and sustained stand only in an active state, as the model reads R1
(log 20). R5, R6, R7: every step keeps the machine `Orderly`: above all each assigned voice that is neither TUNING nor
DISABLED is once on the one list of its own part that its state names, and any other voice on no list; start records name
QUENCHING and WAITING voices of their UNISON part, and tunes hold TUNING voices. -/
def Obligations.StepsKeepGatesAndVoices : Prop :=
  ∀ s t : State, step s = .next t →
    (GatesFollowVoices s → GatesFollowVoices t) ∧ (VoicesCoherent s → VoicesCoherent t) ∧ (Orderly s → Orderly t)

/-- R121, R123: every step keeps every live parameter within its range; R4, R21: and every held list at most sixteen notes
with none twice. -/
def Obligations.StepsKeepParametersAndHeldLists : Prop :=
  ∀ s t : State, step s = .next t →
    (ParamsInRange s → ParamsInRange t) ∧ (HeldListsBounded s → HeldListsBounded t)

/-- R142: every step keeps the page store in its canonical form, addresses rising and inside the store, so that equal
stores are equal data. -/
def Obligations.StepsKeepTheStoreCanonical : Prop :=
  ∀ s t : State, step s = .next t → StoreCanonical s → StoreCanonical t

/-- R72 to R76, R78: every step keeps every correction within -4096..4095 and every measurement channel coherent. R71, R86:
and, from an `Orderly` state, which StepsKeepGatesAndVoices says stays so, no oscillator held by two channels. -/
def Obligations.StepsKeepTheTuningCoherent : Prop :=
  ∀ s t : State, step s = .next t → (TuningCoherent s → TuningCoherent t) ∧ (Orderly s → ChannelsApart t)

/-- The machine after reset meets every invariant above. -/
def Obligations.ResetMeetsTheInvariants : Prop :=
  AlertFollowsFlags State.reset ∧ QueuesBounded State.reset ∧ GatesFollowVoices State.reset ∧
  VoicesCoherent State.reset ∧ ParamsInRange State.reset ∧ HeldListsBounded State.reset ∧
  StoreCanonical State.reset ∧ TuningCoherent State.reset ∧ Orderly State.reset ∧ ChannelsApart State.reset
end

