-- ==== Sys2Proof/Laws/State.lean ====
section
/-!
SUPPORT. What each change of State leaves in each field: one lemma per field per update, each true by rfl.
-/

namespace Sys2Proof.Machine.State

section
variable (s : State) (f : Lnk → Lnk)
@[simp] theorem modLnk_phase : (s.modLnk f).phase = s.phase := rfl
@[simp] theorem modLnk_loadPage : (s.modLnk f).loadPage = s.loadPage := rfl
@[simp] theorem modLnk_lnk : (s.modLnk f).lnk = f s.lnk := rfl
@[simp] theorem modLnk_vas : (s.modLnk f).vas = s.vas := rfl
@[simp] theorem modLnk_cvo : (s.modLnk f).cvo = s.cvo := rfl
@[simp] theorem modLnk_tun : (s.modLnk f).tun = s.tun := rfl
@[simp] theorem modLnk_pns : (s.modLnk f).pns = s.pns := rfl
@[simp] theorem modLnk_pbu : (s.modLnk f).pbu = s.pbu := rfl
@[simp] theorem modLnk_pmc : (s.modLnk f).pmc = s.pmc := rfl
@[simp] theorem modLnk_stu : (s.modLnk f).stu = s.stu := rfl
@[simp] theorem modLnk_freeDraws : (s.modLnk f).freeDraws = s.freeDraws := rfl
@[simp] theorem modLnk_pending : (s.modLnk f).pending = s.pending := rfl
end

section
variable (s : State) (f : Vas → Vas)
@[simp] theorem modVas_phase : (s.modVas f).phase = s.phase := rfl
@[simp] theorem modVas_loadPage : (s.modVas f).loadPage = s.loadPage := rfl
@[simp] theorem modVas_lnk : (s.modVas f).lnk = s.lnk := rfl
@[simp] theorem modVas_vas : (s.modVas f).vas = f s.vas := rfl
@[simp] theorem modVas_cvo : (s.modVas f).cvo = s.cvo := rfl
@[simp] theorem modVas_tun : (s.modVas f).tun = s.tun := rfl
@[simp] theorem modVas_pns : (s.modVas f).pns = s.pns := rfl
@[simp] theorem modVas_pbu : (s.modVas f).pbu = s.pbu := rfl
@[simp] theorem modVas_pmc : (s.modVas f).pmc = s.pmc := rfl
@[simp] theorem modVas_stu : (s.modVas f).stu = s.stu := rfl
@[simp] theorem modVas_freeDraws : (s.modVas f).freeDraws = s.freeDraws := rfl
@[simp] theorem modVas_pending : (s.modVas f).pending = s.pending := rfl
end

section
variable (s : State) (f : Cvo → Cvo)
@[simp] theorem modCvo_phase : (s.modCvo f).phase = s.phase := rfl
@[simp] theorem modCvo_loadPage : (s.modCvo f).loadPage = s.loadPage := rfl
@[simp] theorem modCvo_lnk : (s.modCvo f).lnk = s.lnk := rfl
@[simp] theorem modCvo_vas : (s.modCvo f).vas = s.vas := rfl
@[simp] theorem modCvo_cvo : (s.modCvo f).cvo = f s.cvo := rfl
@[simp] theorem modCvo_tun : (s.modCvo f).tun = s.tun := rfl
@[simp] theorem modCvo_pns : (s.modCvo f).pns = s.pns := rfl
@[simp] theorem modCvo_pbu : (s.modCvo f).pbu = s.pbu := rfl
@[simp] theorem modCvo_pmc : (s.modCvo f).pmc = s.pmc := rfl
@[simp] theorem modCvo_stu : (s.modCvo f).stu = s.stu := rfl
@[simp] theorem modCvo_freeDraws : (s.modCvo f).freeDraws = s.freeDraws := rfl
@[simp] theorem modCvo_pending : (s.modCvo f).pending = s.pending := rfl
end

section
variable (s : State) (f : Tun → Tun)
@[simp] theorem modTun_phase : (s.modTun f).phase = s.phase := rfl
@[simp] theorem modTun_loadPage : (s.modTun f).loadPage = s.loadPage := rfl
@[simp] theorem modTun_lnk : (s.modTun f).lnk = s.lnk := rfl
@[simp] theorem modTun_vas : (s.modTun f).vas = s.vas := rfl
@[simp] theorem modTun_cvo : (s.modTun f).cvo = s.cvo := rfl
@[simp] theorem modTun_tun : (s.modTun f).tun = f s.tun := rfl
@[simp] theorem modTun_pns : (s.modTun f).pns = s.pns := rfl
@[simp] theorem modTun_pbu : (s.modTun f).pbu = s.pbu := rfl
@[simp] theorem modTun_pmc : (s.modTun f).pmc = s.pmc := rfl
@[simp] theorem modTun_stu : (s.modTun f).stu = s.stu := rfl
@[simp] theorem modTun_freeDraws : (s.modTun f).freeDraws = s.freeDraws := rfl
@[simp] theorem modTun_pending : (s.modTun f).pending = s.pending := rfl
end

section
variable (s : State) (f : Pns → Pns)
@[simp] theorem modPns_phase : (s.modPns f).phase = s.phase := rfl
@[simp] theorem modPns_loadPage : (s.modPns f).loadPage = s.loadPage := rfl
@[simp] theorem modPns_lnk : (s.modPns f).lnk = s.lnk := rfl
@[simp] theorem modPns_vas : (s.modPns f).vas = s.vas := rfl
@[simp] theorem modPns_cvo : (s.modPns f).cvo = s.cvo := rfl
@[simp] theorem modPns_tun : (s.modPns f).tun = s.tun := rfl
@[simp] theorem modPns_pns : (s.modPns f).pns = f s.pns := rfl
@[simp] theorem modPns_pbu : (s.modPns f).pbu = s.pbu := rfl
@[simp] theorem modPns_pmc : (s.modPns f).pmc = s.pmc := rfl
@[simp] theorem modPns_stu : (s.modPns f).stu = s.stu := rfl
@[simp] theorem modPns_freeDraws : (s.modPns f).freeDraws = s.freeDraws := rfl
@[simp] theorem modPns_pending : (s.modPns f).pending = s.pending := rfl
end

section
variable (s : State) (f : Pbu → Pbu)
@[simp] theorem modPbu_phase : (s.modPbu f).phase = s.phase := rfl
@[simp] theorem modPbu_loadPage : (s.modPbu f).loadPage = s.loadPage := rfl
@[simp] theorem modPbu_lnk : (s.modPbu f).lnk = s.lnk := rfl
@[simp] theorem modPbu_vas : (s.modPbu f).vas = s.vas := rfl
@[simp] theorem modPbu_cvo : (s.modPbu f).cvo = s.cvo := rfl
@[simp] theorem modPbu_tun : (s.modPbu f).tun = s.tun := rfl
@[simp] theorem modPbu_pns : (s.modPbu f).pns = s.pns := rfl
@[simp] theorem modPbu_pbu : (s.modPbu f).pbu = f s.pbu := rfl
@[simp] theorem modPbu_pmc : (s.modPbu f).pmc = s.pmc := rfl
@[simp] theorem modPbu_stu : (s.modPbu f).stu = s.stu := rfl
@[simp] theorem modPbu_freeDraws : (s.modPbu f).freeDraws = s.freeDraws := rfl
@[simp] theorem modPbu_pending : (s.modPbu f).pending = s.pending := rfl
end

section
variable (s : State) (f : Pmc → Pmc)
@[simp] theorem modPmc_phase : (s.modPmc f).phase = s.phase := rfl
@[simp] theorem modPmc_loadPage : (s.modPmc f).loadPage = s.loadPage := rfl
@[simp] theorem modPmc_lnk : (s.modPmc f).lnk = s.lnk := rfl
@[simp] theorem modPmc_vas : (s.modPmc f).vas = s.vas := rfl
@[simp] theorem modPmc_cvo : (s.modPmc f).cvo = s.cvo := rfl
@[simp] theorem modPmc_tun : (s.modPmc f).tun = s.tun := rfl
@[simp] theorem modPmc_pns : (s.modPmc f).pns = s.pns := rfl
@[simp] theorem modPmc_pbu : (s.modPmc f).pbu = s.pbu := rfl
@[simp] theorem modPmc_pmc : (s.modPmc f).pmc = f s.pmc := rfl
@[simp] theorem modPmc_stu : (s.modPmc f).stu = s.stu := rfl
@[simp] theorem modPmc_freeDraws : (s.modPmc f).freeDraws = s.freeDraws := rfl
@[simp] theorem modPmc_pending : (s.modPmc f).pending = s.pending := rfl
end

section
variable (s : State) (f : Stu → Stu)
@[simp] theorem modStu_phase : (s.modStu f).phase = s.phase := rfl
@[simp] theorem modStu_loadPage : (s.modStu f).loadPage = s.loadPage := rfl
@[simp] theorem modStu_lnk : (s.modStu f).lnk = s.lnk := rfl
@[simp] theorem modStu_vas : (s.modStu f).vas = s.vas := rfl
@[simp] theorem modStu_cvo : (s.modStu f).cvo = s.cvo := rfl
@[simp] theorem modStu_tun : (s.modStu f).tun = s.tun := rfl
@[simp] theorem modStu_pns : (s.modStu f).pns = s.pns := rfl
@[simp] theorem modStu_pbu : (s.modStu f).pbu = s.pbu := rfl
@[simp] theorem modStu_pmc : (s.modStu f).pmc = s.pmc := rfl
@[simp] theorem modStu_stu : (s.modStu f).stu = f s.stu := rfl
@[simp] theorem modStu_freeDraws : (s.modStu f).freeDraws = s.freeDraws := rfl
@[simp] theorem modStu_pending : (s.modStu f).pending = s.pending := rfl
end

section
variable (s : State) (v : VoiceId) (f : Voice → Voice)
@[simp] theorem modVoice_phase : (s.modVoice v f).phase = s.phase := rfl
@[simp] theorem modVoice_loadPage : (s.modVoice v f).loadPage = s.loadPage := rfl
@[simp] theorem modVoice_lnk : (s.modVoice v f).lnk = s.lnk := rfl
@[simp] theorem modVoice_cvo : (s.modVoice v f).cvo = s.cvo := rfl
@[simp] theorem modVoice_tun : (s.modVoice v f).tun = s.tun := rfl
@[simp] theorem modVoice_pns : (s.modVoice v f).pns = s.pns := rfl
@[simp] theorem modVoice_pbu : (s.modVoice v f).pbu = s.pbu := rfl
@[simp] theorem modVoice_pmc : (s.modVoice v f).pmc = s.pmc := rfl
@[simp] theorem modVoice_stu : (s.modVoice v f).stu = s.stu := rfl
@[simp] theorem modVoice_freeDraws : (s.modVoice v f).freeDraws = s.freeDraws := rfl
@[simp] theorem modVoice_pending : (s.modVoice v f).pending = s.pending := rfl
end

section
variable (s : State) (p : PartId) (f : Part → Part)
@[simp] theorem modPart_phase : (s.modPart p f).phase = s.phase := rfl
@[simp] theorem modPart_loadPage : (s.modPart p f).loadPage = s.loadPage := rfl
@[simp] theorem modPart_lnk : (s.modPart p f).lnk = s.lnk := rfl
@[simp] theorem modPart_cvo : (s.modPart p f).cvo = s.cvo := rfl
@[simp] theorem modPart_tun : (s.modPart p f).tun = s.tun := rfl
@[simp] theorem modPart_pns : (s.modPart p f).pns = s.pns := rfl
@[simp] theorem modPart_pbu : (s.modPart p f).pbu = s.pbu := rfl
@[simp] theorem modPart_pmc : (s.modPart p f).pmc = s.pmc := rfl
@[simp] theorem modPart_stu : (s.modPart p f).stu = s.stu := rfl
@[simp] theorem modPart_freeDraws : (s.modPart p f).freeDraws = s.freeDraws := rfl
@[simp] theorem modPart_pending : (s.modPart p f).pending = s.pending := rfl
end

section
variable (s : State) (v : VoiceId) (high : Bool)
@[simp] theorem setGate_phase : (s.setGate v high).phase = s.phase := rfl
@[simp] theorem setGate_loadPage : (s.setGate v high).loadPage = s.loadPage := rfl
@[simp] theorem setGate_lnk : (s.setGate v high).lnk = s.lnk := rfl
@[simp] theorem setGate_vas : (s.setGate v high).vas = s.vas := rfl
@[simp] theorem setGate_tun : (s.setGate v high).tun = s.tun := rfl
@[simp] theorem setGate_pns : (s.setGate v high).pns = s.pns := rfl
@[simp] theorem setGate_pbu : (s.setGate v high).pbu = s.pbu := rfl
@[simp] theorem setGate_pmc : (s.setGate v high).pmc = s.pmc := rfl
@[simp] theorem setGate_stu : (s.setGate v high).stu = s.stu := rfl
@[simp] theorem setGate_freeDraws : (s.setGate v high).freeDraws = s.freeDraws := rfl
@[simp] theorem setGate_pending : (s.setGate v high).pending = s.pending := rfl
end

section
variable (s : State) (p : PartId) (v : VoiceId)
@[simp] theorem leaveFree_phase : (s.leaveFree p v).phase = s.phase := rfl
@[simp] theorem leaveFree_loadPage : (s.leaveFree p v).loadPage = s.loadPage := rfl
@[simp] theorem leaveFree_lnk : (s.leaveFree p v).lnk = s.lnk := rfl
@[simp] theorem leaveFree_cvo : (s.leaveFree p v).cvo = s.cvo := rfl
@[simp] theorem leaveFree_tun : (s.leaveFree p v).tun = s.tun := rfl
@[simp] theorem leaveFree_pns : (s.leaveFree p v).pns = s.pns := rfl
@[simp] theorem leaveFree_pbu : (s.leaveFree p v).pbu = s.pbu := rfl
@[simp] theorem leaveFree_pmc : (s.leaveFree p v).pmc = s.pmc := rfl
@[simp] theorem leaveFree_stu : (s.leaveFree p v).stu = s.stu := rfl
@[simp] theorem leaveFree_freeDraws : (s.leaveFree p v).freeDraws = s.freeDraws := rfl
@[simp] theorem leaveFree_pending : (s.leaveFree p v).pending = s.pending := rfl
end

section
variable (s : State) (p : PartId) (v : VoiceId)
@[simp] theorem joinFree_phase : (s.joinFree p v).phase = s.phase := rfl
@[simp] theorem joinFree_loadPage : (s.joinFree p v).loadPage = s.loadPage := rfl
@[simp] theorem joinFree_lnk : (s.joinFree p v).lnk = s.lnk := rfl
@[simp] theorem joinFree_cvo : (s.joinFree p v).cvo = s.cvo := rfl
@[simp] theorem joinFree_tun : (s.joinFree p v).tun = s.tun := rfl
@[simp] theorem joinFree_pns : (s.joinFree p v).pns = s.pns := rfl
@[simp] theorem joinFree_pbu : (s.joinFree p v).pbu = s.pbu := rfl
@[simp] theorem joinFree_pmc : (s.joinFree p v).pmc = s.pmc := rfl
@[simp] theorem joinFree_stu : (s.joinFree p v).stu = s.stu := rfl
@[simp] theorem joinFree_freeDraws : (s.joinFree p v).freeDraws = s.freeDraws := rfl
@[simp] theorem joinFree_pending : (s.joinFree p v).pending = s.pending := rfl
end

section
variable (s : State) (p : PartId) (v : VoiceId)
@[simp] theorem leaveActive_phase : (s.leaveActive p v).phase = s.phase := rfl
@[simp] theorem leaveActive_loadPage : (s.leaveActive p v).loadPage = s.loadPage := rfl
@[simp] theorem leaveActive_lnk : (s.leaveActive p v).lnk = s.lnk := rfl
@[simp] theorem leaveActive_cvo : (s.leaveActive p v).cvo = s.cvo := rfl
@[simp] theorem leaveActive_tun : (s.leaveActive p v).tun = s.tun := rfl
@[simp] theorem leaveActive_pns : (s.leaveActive p v).pns = s.pns := rfl
@[simp] theorem leaveActive_pbu : (s.leaveActive p v).pbu = s.pbu := rfl
@[simp] theorem leaveActive_pmc : (s.leaveActive p v).pmc = s.pmc := rfl
@[simp] theorem leaveActive_stu : (s.leaveActive p v).stu = s.stu := rfl
@[simp] theorem leaveActive_freeDraws : (s.leaveActive p v).freeDraws = s.freeDraws := rfl
@[simp] theorem leaveActive_pending : (s.leaveActive p v).pending = s.pending := rfl
end

section
variable (s : State) (p : PartId) (v : VoiceId)
@[simp] theorem joinActive_phase : (s.joinActive p v).phase = s.phase := rfl
@[simp] theorem joinActive_loadPage : (s.joinActive p v).loadPage = s.loadPage := rfl
@[simp] theorem joinActive_lnk : (s.joinActive p v).lnk = s.lnk := rfl
@[simp] theorem joinActive_cvo : (s.joinActive p v).cvo = s.cvo := rfl
@[simp] theorem joinActive_tun : (s.joinActive p v).tun = s.tun := rfl
@[simp] theorem joinActive_pns : (s.joinActive p v).pns = s.pns := rfl
@[simp] theorem joinActive_pbu : (s.joinActive p v).pbu = s.pbu := rfl
@[simp] theorem joinActive_pmc : (s.joinActive p v).pmc = s.pmc := rfl
@[simp] theorem joinActive_stu : (s.joinActive p v).stu = s.stu := rfl
@[simp] theorem joinActive_freeDraws : (s.joinActive p v).freeDraws = s.freeDraws := rfl
@[simp] theorem joinActive_pending : (s.joinActive p v).pending = s.pending := rfl
end

section
variable (s : State) (p : PartId) (v : VoiceId)
@[simp] theorem toActiveTail_phase : (s.toActiveTail p v).phase = s.phase := rfl
@[simp] theorem toActiveTail_loadPage : (s.toActiveTail p v).loadPage = s.loadPage := rfl
@[simp] theorem toActiveTail_lnk : (s.toActiveTail p v).lnk = s.lnk := rfl
@[simp] theorem toActiveTail_cvo : (s.toActiveTail p v).cvo = s.cvo := rfl
@[simp] theorem toActiveTail_tun : (s.toActiveTail p v).tun = s.tun := rfl
@[simp] theorem toActiveTail_pns : (s.toActiveTail p v).pns = s.pns := rfl
@[simp] theorem toActiveTail_pbu : (s.toActiveTail p v).pbu = s.pbu := rfl
@[simp] theorem toActiveTail_pmc : (s.toActiveTail p v).pmc = s.pmc := rfl
@[simp] theorem toActiveTail_stu : (s.toActiveTail p v).stu = s.stu := rfl
@[simp] theorem toActiveTail_freeDraws : (s.toActiveTail p v).freeDraws = s.freeDraws := rfl
@[simp] theorem toActiveTail_pending : (s.toActiveTail p v).pending = s.pending := rfl
end

section
variable (s : State) (c : MeasId) (f : Channel → Channel)
@[simp] theorem modChannel_phase : (s.modChannel c f).phase = s.phase := rfl
@[simp] theorem modChannel_loadPage : (s.modChannel c f).loadPage = s.loadPage := rfl
@[simp] theorem modChannel_lnk : (s.modChannel c f).lnk = s.lnk := rfl
@[simp] theorem modChannel_vas : (s.modChannel c f).vas = s.vas := rfl
@[simp] theorem modChannel_cvo : (s.modChannel c f).cvo = s.cvo := rfl
@[simp] theorem modChannel_pns : (s.modChannel c f).pns = s.pns := rfl
@[simp] theorem modChannel_pbu : (s.modChannel c f).pbu = s.pbu := rfl
@[simp] theorem modChannel_pmc : (s.modChannel c f).pmc = s.pmc := rfl
@[simp] theorem modChannel_stu : (s.modChannel c f).stu = s.stu := rfl
@[simp] theorem modChannel_freeDraws : (s.modChannel c f).freeDraws = s.freeDraws := rfl
@[simp] theorem modChannel_pending : (s.modChannel c f).pending = s.pending := rfl
end

section
variable (s : State) (o : OscId) (table : Vector Int 12)
@[simp] theorem setTable_phase : (s.setTable o table).phase = s.phase := rfl
@[simp] theorem setTable_loadPage : (s.setTable o table).loadPage = s.loadPage := rfl
@[simp] theorem setTable_lnk : (s.setTable o table).lnk = s.lnk := rfl
@[simp] theorem setTable_vas : (s.setTable o table).vas = s.vas := rfl
@[simp] theorem setTable_cvo : (s.setTable o table).cvo = s.cvo := rfl
@[simp] theorem setTable_pns : (s.setTable o table).pns = s.pns := rfl
@[simp] theorem setTable_pbu : (s.setTable o table).pbu = s.pbu := rfl
@[simp] theorem setTable_pmc : (s.setTable o table).pmc = s.pmc := rfl
@[simp] theorem setTable_stu : (s.setTable o table).stu = s.stu := rfl
@[simp] theorem setTable_freeDraws : (s.setTable o table).freeDraws = s.freeDraws := rfl
@[simp] theorem setTable_pending : (s.setTable o table).pending = s.pending := rfl
end

section
variable (s : State) (c : ControlId) (f : Filter → Filter)
@[simp] theorem modFilter_phase : (s.modFilter c f).phase = s.phase := rfl
@[simp] theorem modFilter_loadPage : (s.modFilter c f).loadPage = s.loadPage := rfl
@[simp] theorem modFilter_lnk : (s.modFilter c f).lnk = s.lnk := rfl
@[simp] theorem modFilter_vas : (s.modFilter c f).vas = s.vas := rfl
@[simp] theorem modFilter_cvo : (s.modFilter c f).cvo = s.cvo := rfl
@[simp] theorem modFilter_tun : (s.modFilter c f).tun = s.tun := rfl
@[simp] theorem modFilter_pbu : (s.modFilter c f).pbu = s.pbu := rfl
@[simp] theorem modFilter_pmc : (s.modFilter c f).pmc = s.pmc := rfl
@[simp] theorem modFilter_stu : (s.modFilter c f).stu = s.stu := rfl
@[simp] theorem modFilter_freeDraws : (s.modFilter c f).freeDraws = s.freeDraws := rfl
@[simp] theorem modFilter_pending : (s.modFilter c f).pending = s.pending := rfl
end

section
variable (s : State) (b : BankId) (f : Bank → Bank)
@[simp] theorem modBank_phase : (s.modBank b f).phase = s.phase := rfl
@[simp] theorem modBank_loadPage : (s.modBank b f).loadPage = s.loadPage := rfl
@[simp] theorem modBank_lnk : (s.modBank b f).lnk = s.lnk := rfl
@[simp] theorem modBank_vas : (s.modBank b f).vas = s.vas := rfl
@[simp] theorem modBank_cvo : (s.modBank b f).cvo = s.cvo := rfl
@[simp] theorem modBank_tun : (s.modBank b f).tun = s.tun := rfl
@[simp] theorem modBank_pns : (s.modBank b f).pns = s.pns := rfl
@[simp] theorem modBank_pbu : (s.modBank b f).pbu = s.pbu := rfl
@[simp] theorem modBank_stu : (s.modBank b f).stu = s.stu := rfl
@[simp] theorem modBank_freeDraws : (s.modBank b f).freeDraws = s.freeDraws := rfl
@[simp] theorem modBank_pending : (s.modBank b f).pending = s.pending := rfl
end

section
variable (s : State) (p : PartId) (r : Option Recall)
@[simp] theorem setRecall_phase : (s.setRecall p r).phase = s.phase := rfl
@[simp] theorem setRecall_loadPage : (s.setRecall p r).loadPage = s.loadPage := rfl
@[simp] theorem setRecall_lnk : (s.setRecall p r).lnk = s.lnk := rfl
@[simp] theorem setRecall_vas : (s.setRecall p r).vas = s.vas := rfl
@[simp] theorem setRecall_cvo : (s.setRecall p r).cvo = s.cvo := rfl
@[simp] theorem setRecall_tun : (s.setRecall p r).tun = s.tun := rfl
@[simp] theorem setRecall_pns : (s.setRecall p r).pns = s.pns := rfl
@[simp] theorem setRecall_pbu : (s.setRecall p r).pbu = s.pbu := rfl
@[simp] theorem setRecall_stu : (s.setRecall p r).stu = s.stu := rfl
@[simp] theorem setRecall_freeDraws : (s.setRecall p r).freeDraws = s.freeDraws := rfl
@[simp] theorem setRecall_pending : (s.setRecall p r).pending = s.pending := rfl
end

section
variable (s : State) 
@[simp] theorem updateAlert_phase : (s.updateAlert).phase = s.phase := rfl
@[simp] theorem updateAlert_loadPage : (s.updateAlert).loadPage = s.loadPage := rfl
@[simp] theorem updateAlert_lnk : (s.updateAlert).lnk = s.lnk := rfl
@[simp] theorem updateAlert_vas : (s.updateAlert).vas = s.vas := rfl
@[simp] theorem updateAlert_cvo : (s.updateAlert).cvo = s.cvo := rfl
@[simp] theorem updateAlert_tun : (s.updateAlert).tun = s.tun := rfl
@[simp] theorem updateAlert_pns : (s.updateAlert).pns = s.pns := rfl
@[simp] theorem updateAlert_pbu : (s.updateAlert).pbu = s.pbu := rfl
@[simp] theorem updateAlert_pmc : (s.updateAlert).pmc = s.pmc := rfl
@[simp] theorem updateAlert_freeDraws : (s.updateAlert).freeDraws = s.freeDraws := rfl
@[simp] theorem updateAlert_pending : (s.updateAlert).pending = s.pending := rfl
end

section
variable (s : State) (f : FlagId) (x : Flag)
@[simp] theorem putFlag_phase : (s.putFlag f x).phase = s.phase := rfl
@[simp] theorem putFlag_loadPage : (s.putFlag f x).loadPage = s.loadPage := rfl
@[simp] theorem putFlag_lnk : (s.putFlag f x).lnk = s.lnk := rfl
@[simp] theorem putFlag_vas : (s.putFlag f x).vas = s.vas := rfl
@[simp] theorem putFlag_cvo : (s.putFlag f x).cvo = s.cvo := rfl
@[simp] theorem putFlag_tun : (s.putFlag f x).tun = s.tun := rfl
@[simp] theorem putFlag_pns : (s.putFlag f x).pns = s.pns := rfl
@[simp] theorem putFlag_pbu : (s.putFlag f x).pbu = s.pbu := rfl
@[simp] theorem putFlag_pmc : (s.putFlag f x).pmc = s.pmc := rfl
@[simp] theorem putFlag_freeDraws : (s.putFlag f x).freeDraws = s.freeDraws := rfl
@[simp] theorem putFlag_pending : (s.putFlag f x).pending = s.pending := rfl
end

section
variable (s : State) (c : CounterId)
@[simp] theorem bump_phase : (s.bump c).phase = s.phase := rfl
@[simp] theorem bump_loadPage : (s.bump c).loadPage = s.loadPage := rfl
@[simp] theorem bump_lnk : (s.bump c).lnk = s.lnk := rfl
@[simp] theorem bump_vas : (s.bump c).vas = s.vas := rfl
@[simp] theorem bump_cvo : (s.bump c).cvo = s.cvo := rfl
@[simp] theorem bump_tun : (s.bump c).tun = s.tun := rfl
@[simp] theorem bump_pns : (s.bump c).pns = s.pns := rfl
@[simp] theorem bump_pbu : (s.bump c).pbu = s.pbu := rfl
@[simp] theorem bump_pmc : (s.bump c).pmc = s.pmc := rfl
@[simp] theorem bump_freeDraws : (s.bump c).freeDraws = s.freeDraws := rfl
@[simp] theorem bump_pending : (s.bump c).pending = s.pending := rfl
end

section
variable (s : State) 
@[simp] theorem takeNumber_phase : (s.takeNumber).phase = s.phase := rfl
@[simp] theorem takeNumber_loadPage : (s.takeNumber).loadPage = s.loadPage := rfl
@[simp] theorem takeNumber_vas : (s.takeNumber).vas = s.vas := rfl
@[simp] theorem takeNumber_cvo : (s.takeNumber).cvo = s.cvo := rfl
@[simp] theorem takeNumber_tun : (s.takeNumber).tun = s.tun := rfl
@[simp] theorem takeNumber_pns : (s.takeNumber).pns = s.pns := rfl
@[simp] theorem takeNumber_pbu : (s.takeNumber).pbu = s.pbu := rfl
@[simp] theorem takeNumber_pmc : (s.takeNumber).pmc = s.pmc := rfl
@[simp] theorem takeNumber_stu : (s.takeNumber).stu = s.stu := rfl
@[simp] theorem takeNumber_freeDraws : (s.takeNumber).freeDraws = s.freeDraws := rfl
@[simp] theorem takeNumber_pending : (s.takeNumber).pending = s.pending := rfl
end

section
variable (s : State) (v : VoiceId) (st : VoiceState)
@[simp] theorem enter_phase : (s.enter v st).phase = s.phase := rfl
@[simp] theorem enter_loadPage : (s.enter v st).loadPage = s.loadPage := rfl
@[simp] theorem enter_lnk : (s.enter v st).lnk = s.lnk := rfl
@[simp] theorem enter_tun : (s.enter v st).tun = s.tun := rfl
@[simp] theorem enter_pns : (s.enter v st).pns = s.pns := rfl
@[simp] theorem enter_pbu : (s.enter v st).pbu = s.pbu := rfl
@[simp] theorem enter_pmc : (s.enter v st).pmc = s.pmc := rfl
@[simp] theorem enter_stu : (s.enter v st).stu = s.stu := rfl
@[simp] theorem enter_freeDraws : (s.enter v st).freeDraws = s.freeDraws := rfl
@[simp] theorem enter_pending : (s.enter v st).pending = s.pending := rfl
end

end Sys2Proof.Machine.State
end

