-- ==== Sys2Proof/Laws/Flags.lean ====
section
/-!
SUPPORT. What a notice, a flag or a counter can change (R180, R181, R190, R200): the notice queue and its numbers, the
flags, the counters and ALERT, and nothing else.
-/

namespace Sys2Proof.Machine

/-- `t` differs from `s` at most in the notice queue, its next number, the flags, the counters and ALERT. -/
structure StatusOnly (s t : State) : Prop where
  phase : t.phase = s.phase
  loadPage : t.loadPage = s.loadPage
  vas : t.vas = s.vas
  cvo : t.cvo = s.cvo
  tun : t.tun = s.tun
  pns : t.pns = s.pns
  pbu : t.pbu = s.pbu
  pmc : t.pmc = s.pmc
  freeDraws : t.freeDraws = s.freeDraws
  pending : t.pending = s.pending
  rx : t.lnk.rx = s.lnk.rx
  gapTimer : t.lnk.gapTimer = s.lnk.gapTimer
  inbound : t.lnk.inbound = s.lnk.inbound
  slot : t.lnk.slot = s.lnk.slot
  reports : t.lnk.reports = s.lnk.reports
  tx : t.lnk.tx = s.lnk.tx
  flagMask : t.stu.flagMask = s.stu.flagMask
  categoryMask : t.stu.categoryMask = s.stu.categoryMask
  noticeMask : t.stu.noticeMask = s.stu.noticeMask
  tests : t.stu.tests = s.stu.tests

namespace StatusOnly

theorem refl (s : State) : StatusOnly s s := by constructor <;> rfl

theorem trans {s t u : State} (h : StatusOnly s t) (k : StatusOnly t u) : StatusOnly s u where
  phase := k.phase.trans h.phase
  loadPage := k.loadPage.trans h.loadPage
  vas := k.vas.trans h.vas
  cvo := k.cvo.trans h.cvo
  tun := k.tun.trans h.tun
  pns := k.pns.trans h.pns
  pbu := k.pbu.trans h.pbu
  pmc := k.pmc.trans h.pmc
  freeDraws := k.freeDraws.trans h.freeDraws
  pending := k.pending.trans h.pending
  rx := k.rx.trans h.rx
  gapTimer := k.gapTimer.trans h.gapTimer
  inbound := k.inbound.trans h.inbound
  slot := k.slot.trans h.slot
  reports := k.reports.trans h.reports
  tx := k.tx.trans h.tx
  flagMask := k.flagMask.trans h.flagMask
  categoryMask := k.categoryMask.trans h.categoryMask
  noticeMask := k.noticeMask.trans h.noticeMask
  tests := k.tests.trans h.tests

theorem bump (s : State) (c : CounterId) : StatusOnly s (s.bump c) := by constructor <;> rfl
theorem putFlag (s : State) (f : FlagId) (x : Flag) : StatusOnly s (s.putFlag f x) := by constructor <;> rfl
theorem updateAlert (s : State) : StatusOnly s s.updateAlert := by constructor <;> rfl
theorem takeNumber (s : State) : StatusOnly s s.takeNumber := by constructor <;> rfl

theorem ite {s t u : State} {c : Prop} [Decidable c] (h : StatusOnly s t) (k : StatusOnly s u) :
    StatusOnly s (if c then t else u) := by split <;> assumption

end StatusOnly

theorem loseNotice_statusOnly (n : Nat) (s : State) : StatusOnly s (loseNotice n s) := by
  induction n generalizing s with
  | zero => exact .refl s
  | succ n ih =>
    have counted := StatusOnly.bump s cNoticesLost
    have step (t : State) (h : StatusOnly s t) (x : Flag) :
        StatusOnly s (if t.stu.flags[fNoticeLost].isSet then t.putFlag fNoticeLost x
          else loseNotice n (t.putFlag fNoticeLost x).updateAlert.takeNumber) :=
      .ite (h.trans (.putFlag ..))
        (h.trans ((StatusOnly.putFlag ..).trans ((StatusOnly.updateAlert _).trans
          ((StatusOnly.takeNumber _).trans (ih _)))))
    exact step _ (.ite (counted.trans ((StatusOnly.takeNumber _).trans (ih _))) counted) _

theorem offerNotice_statusOnly (n : Notice) (s : State) : StatusOnly s (offerNotice n s) :=
  .ite (.refl s) (.ite (by constructor <;> rfl) ((StatusOnly.takeNumber s).trans (loseNotice_statusOnly 3 _)))

theorem setFault_statusOnly (f : FlagId) (s : State) : StatusOnly s (setFault f s) :=
  .ite (.putFlag ..) ((StatusOnly.putFlag ..).trans ((StatusOnly.updateAlert _).trans (offerNotice_statusOnly ..)))

theorem forceFault_statusOnly (f : FlagId) (s : State) : StatusOnly s (forceFault f s) :=
  .ite (.refl s) ((StatusOnly.putFlag ..).trans ((StatusOnly.updateAlert _).trans (offerNotice_statusOnly ..)))

theorem countUp_statusOnly (c : CounterId) (s : State) : StatusOnly s (countUp c s) :=
  .ite ((StatusOnly.bump ..).trans (offerNotice_statusOnly ..)) (.bump ..)

/-- An offer of a notice that is neither masked nor lost (R180). -/
theorem offerNotice_queued (n : Notice) (s : State) (open_ : disabled s.stu n = false)
    (room : s.lnk.notices.length < noticeCapacity) :
    offerNotice n s = s.modLnk fun l => { l with notices := l.notices ++ [(l.seq, n)], seq := l.seq + 1 } := by
  simp [offerNotice, open_, room, State.takeNumber, State.modLnk]

/-- A masked notice is dropped (R180, R196). -/
theorem offerNotice_masked (n : Notice) (s : State) (masked : disabled s.stu n = true) : offerNotice n s = s := by
  simp [offerNotice, masked]

end Sys2Proof.Machine
end

