-- ==== Sys2Proof/Laws/Link.lean ====
section
/-!
SUPPORT. How a message that arrives while the part listens reaches its owner, and what the arbiter can change.
-/

namespace Sys2Proof.Machine

/-- A link with no frame waiting, its inbound queue written empty again. -/
theorem inbound_emptied {s : State} (h : s.lnk.inbound = []) : (s.modLnk fun l => { l with inbound := [] }) = s := by
  obtain ⟨_, _, ⟨_, _, inbound, _, _, _, _, _⟩, _, _, _, _, _, _, _, _, _⟩ := s
  simp only at h; subst h; rfl

/-- A frame that arrives at a listening link is taken by the decoder at once (R173, R174). -/
theorem offerFrame_listening {f : Frame} {s : State} (slot : s.lnk.slot = .empty) (queue : s.lnk.inbound = []) :
    offerFrame f s = takeFrame f s := by
  have e : (s.modLnk fun l => { l with inbound := l.inbound ++ [f] }).modLnk (fun l => { l with inbound := [] }) = s :=
    inbound_emptied queue
  simp only [offerFrame, queue, List.length_nil, inboundCapacity, Nat.zero_lt_succ, if_true, serveInbound,
    State.modLnk_lnk, List.nil_append, List.length_singleton, serve, slot]
  exact congrArg (takeFrame f) e

/-- A message command at a listening link: its frame is taken, then the arbiter decides. -/
theorem arrive_listening {i : Instr} {f : Frame} {s : State} (h : Listening s) (spells : frameOf i = some f)
    (fits : f.payload.length ≤ maxPayload) : arrive i s = .next (arbitrate (takeFrame f s)) := by
  simp [arrive, spells, linkEvent, h.1, messageFrame, fits, offerFrame_listening h.2.1 h.2.2]

/-- A RUNNING part that serves at once listens. -/
theorem Ready.listening {s : State} (h : Ready s) : Listening s := ⟨by simp [linkAwake, h.1], h.2.1, h.2.2⟩

/-- A request that arrives at a part that is ready is carried out by its owner with the slot PENDING (R177). -/
theorem arrive_request {i : Instr} {f : Frame} {s : State} (h : Ready s) (spells : frameOf i = some f)
    (fits : f.payload.length ≤ maxPayload) (means : frameMeaning f = .message i)
    (request : isPerformanceKind f.kind = false) :
    arrive i s = .next (arbitrate (perform i (asked f.kind f.tag s))) := by
  rw [arrive_listening h.listening spells fits]
  simp [takeFrame, request, means, h.1, readiness, handOver, takeSlot, asked]

/-- A performance message that arrives at a part that is ready is handled by the Voice Assigner (R176). -/
theorem arrive_performance {i : Instr} {f : Frame} {s : State} (h : Ready s) (spells : frameOf i = some f)
    (fits : f.payload.length ≤ maxPayload) (means : frameMeaning f = .message i)
    (performance : isPerformanceKind f.kind = true) : arrive i s = .next (arbitrate (perform i s)) := by
  rw [arrive_listening h.listening spells fits]
  simp [takeFrame, performance, means, h.1, readiness, handOver]

/-- The owner's reply to the request that holds the slot. -/
theorem placeReply_pending {s : State} {kind tag : Byte} (h : s.lnk.slot = .pending kind tag) (status : Status)
    (fields : List Byte) :
    placeReply status fields s =
      s.modLnk fun l => { l with slot := .full ⟨replyKind kind, tag, status.code :: fields⟩ } := by
  simp [placeReply, h, placeReplyFor]

/-- A two-byte field read as it was sent (R204). -/
@[simp] theorem joinBytes_halves (w : BitVec 16) : joinBytes (highByte w) (lowByte w) = w := by
  unfold joinBytes highByte lowByte
  ext i hi
  simp only [BitVec.getElem_append, BitVec.getElem_extractLsb']
  split <;> rename_i h
  · simp [BitVec.getLsbD_eq_getElem, hi]
  · have : 8 + (i - 8) = i := by omega
    simp [this, BitVec.getLsbD_eq_getElem, hi]

end Sys2Proof.Machine
end

