-- ==== Sys2Proof/Laws/PerInstr.lean ====
section
/-!
SUPPORT. One lemma for each command: the payload of its frame, if it is a message, fits a frame (R204).
-/

namespace Sys2Proof.Laws.FitsFrame

/-- The frame of a well-formed command fits the longest payload. -/
def Statement (i : Instr) : Prop :=
  i.wellFormed = true → ∀ f, frameOf i = some f → f.payload.length ≤ maxPayload

theorem resetnAssert : ∀ a, Statement (.resetnAssert a) := by
  intro a _ f e; cases e
theorem resetnRelease : Statement .resetnRelease := by
  intro _ f e; cases e
theorem tuningPageReadDone : Statement .tuningPageReadDone := by
  intro _ f e; cases e
theorem protectionPageReadDone : Statement .protectionPageReadDone := by
  intro _ f e; cases e
theorem receivedByte : ∀ a, Statement (.receivedByte a) := by
  intro a _ f e; cases e
theorem framingError : Statement .framingError := by
  intro _ f e; cases e
theorem lineBreak : Statement .lineBreak := by
  intro _ f e; cases e
theorem byteGapExpiry : Statement .byteGapExpiry := by
  intro _ f e; cases e
theorem frameSent : Statement .frameSent := by
  intro _ f e; cases e
theorem unknownKindFrame : ∀ a b c, Statement (.unknownKindFrame a b c) := by
  intro a b c w f e
  cases e
  simp [Instr.wellFormed] at w
  exact w.2
theorem keyDown : ∀ a b c, Statement (.keyDown a b c) := by
  intro a b c _ f e; cases e; simp [maxPayload]
theorem keyUp : ∀ a b, Statement (.keyUp a b) := by
  intro a b _ f e; cases e; simp [maxPayload]
theorem bend : ∀ a b, Statement (.bend a b) := by
  intro a b _ f e; cases e; simp [maxPayload, bytes16]
theorem pedal : ∀ a b, Statement (.pedal a b) := by
  intro a b _ f e; cases e; simp [maxPayload]
theorem silence : ∀ a b, Statement (.silence a b) := by
  intro a b _ f e; cases e; simp [maxPayload]
theorem releaseHoldExpiry : ∀ a, Statement (.releaseHoldExpiry a) := by
  intro a _ f e; cases e
theorem quenchExpiry : ∀ a, Statement (.quenchExpiry a) := by
  intro a _ f e; cases e
theorem gapExpiry : ∀ a, Statement (.gapExpiry a) := by
  intro a _ f e; cases e
theorem refreshPassTimerExpiry : Statement .refreshPassTimerExpiry := by
  intro _ f e; cases e
theorem outputVisit : Statement .outputVisit := by
  intro _ f e; cases e
theorem settleExpiry : ∀ a, Statement (.settleExpiry a) := by
  intro a _ f e; cases e
theorem oscRisingEdge : ∀ a b, Statement (.oscRisingEdge a b) := by
  intro a b _ f e; cases e
theorem edgeTimerExpiry : ∀ a, Statement (.edgeTimerExpiry a) := by
  intro a _ f e; cases e
theorem countTimerExpiry : ∀ a, Statement (.countTimerExpiry a) := by
  intro a _ f e; cases e
theorem backgroundIntervalExpiry : Statement .backgroundIntervalExpiry := by
  intro _ f e; cases e
theorem scanTimerExpiry : Statement .scanTimerExpiry := by
  intro _ f e; cases e
theorem switchSampling : ∀ a, Statement (.switchSampling a) := by
  intro a _ f e; cases e
theorem controlConversion : ∀ a, Statement (.controlConversion a) := by
  intro a _ f e; cases e
theorem referenceConversion : ∀ a, Statement (.referenceConversion a) := by
  intro a _ f e; cases e
theorem readbackConversionDone : ∀ a, Statement (.readbackConversionDone a) := by
  intro a _ f e; cases e
theorem pageWriteDone : ∀ a, Statement (.pageWriteDone a) := by
  intro a _ f e; cases e
theorem pageEraseDone : Statement .pageEraseDone := by
  intro _ f e; cases e
theorem recallReadDone : ∀ a, Statement (.recallReadDone a) := by
  intro a _ f e; cases e
theorem exportReadDone : Statement .exportReadDone := by
  intro _ f e; cases e
theorem slotInfoReadDone : Statement .slotInfoReadDone := by
  intro _ f e; cases e
theorem identify : ∀ a, Statement (.identify a) := by
  intro a _ f e; cases e; simp [maxPayload]
theorem restart : ∀ a, Statement (.restart a) := by
  intro a _ f e; cases e; simp [maxPayload]
theorem setGlobal : ∀ a b c, Statement (.setGlobal a b c) := by
  intro a b c _ f e; cases e; simp [maxPayload, bytes16]
theorem getGlobal : ∀ a b, Statement (.getGlobal a b) := by
  intro a b _ f e; cases e; simp [maxPayload]
theorem setRoute : ∀ a b c d e, Statement (.setRoute a b c d e) := by
  intro a b c d e _ f e; cases e; simp [maxPayload]
theorem setPool : ∀ a b, Statement (.setPool a b) := by
  intro a b _ f e; cases e; simp [maxPayload]
theorem setVoiceEnable : ∀ a b c, Statement (.setVoiceEnable a b c) := by
  intro a b c _ f e; cases e; simp [maxPayload]
theorem getVoice : ∀ a b, Statement (.getVoice a b) := by
  intro a b _ f e; cases e; simp [maxPayload]
theorem getPart : ∀ a b, Statement (.getPart a b) := by
  intro a b _ f e; cases e; simp [maxPayload]
theorem getLists : ∀ a b c, Statement (.getLists a b c) := by
  intro a b c _ f e; cases e; simp [maxPayload]
theorem setParam : ∀ a b c d, Statement (.setParam a b c d) := by
  intro a b c d _ f e; cases e; simp [maxPayload, bytes16]
theorem getParam : ∀ a b c, Statement (.getParam a b c) := by
  intro a b c _ f e; cases e; simp [maxPayload]
theorem bindControl : ∀ a b c d e f g h, Statement (.bindControl a b c d e f g h) := by
  intro a b c d e f g h _ f e; cases e; simp [maxPayload]
theorem getControl : ∀ a b, Statement (.getControl a b) := by
  intro a b _ f e; cases e; simp [maxPayload]
theorem recallSlot : ∀ a b c, Statement (.recallSlot a b c) := by
  intro a b c _ f e; cases e; simp [maxPayload, bytes16]
theorem store : ∀ a b c d e, Statement (.store a b c d e) := by
  intro a b c d e _ f e; cases e; simp [maxPayload]
theorem uploadChunk : ∀ a b c, Statement (.uploadChunk a b c) := by
  intro a b c _ f e; cases e; simp [maxPayload]
theorem uploadCommit : ∀ a b, Statement (.uploadCommit a b) := by
  intro a b _ f e; cases e; simp [maxPayload, bytes16]
theorem uploadClear : ∀ a, Statement (.uploadClear a) := by
  intro a _ f e; cases e; simp [maxPayload]
theorem exportSlot : ∀ a b c, Statement (.exportSlot a b c) := by
  intro a b c _ f e; cases e; simp [maxPayload, bytes16]
theorem protect : ∀ a b c, Statement (.protect a b c) := by
  intro a b c _ f e; cases e; simp [maxPayload]
theorem wipeBank : ∀ a b, Statement (.wipeBank a b) := by
  intro a b _ f e; cases e; simp [maxPayload]
theorem getSlotInfo : ∀ a b, Statement (.getSlotInfo a b) := by
  intro a b _ f e; cases e; simp [maxPayload, bytes16]
theorem saveTuning : ∀ a, Statement (.saveTuning a) := by
  intro a _ f e; cases e; simp [maxPayload]
theorem tuneStart : ∀ a b, Statement (.tuneStart a b) := by
  intro a b _ f e; cases e; simp [maxPayload, bytes16]
theorem tuneAbort : ∀ a, Statement (.tuneAbort a) := by
  intro a _ f e; cases e; simp [maxPayload]
theorem getTuning : ∀ a b, Statement (.getTuning a b) := by
  intro a b _ f e; cases e; simp [maxPayload]
theorem resetTuning : ∀ a b, Statement (.resetTuning a b) := by
  intro a b _ f e; cases e; simp [maxPayload, bytes32]
theorem getFaults : ∀ a b, Statement (.getFaults a b) := by
  intro a b _ f e; cases e; simp [maxPayload]
theorem setMasks : ∀ a b c d, Statement (.setMasks a b c d) := by
  intro a b c d _ f e; cases e; simp [maxPayload, bytes16]
theorem testMonitor : ∀ a b, Statement (.testMonitor a b) := by
  intro a b _ f e; cases e; simp [maxPayload]
theorem getCounters : ∀ a b c d, Statement (.getCounters a b c d) := by
  intro a b c d _ f e; cases e; simp [maxPayload]
theorem lossOfPower : ∀ a, Statement (.lossOfPower a) := by
  intro a _ f e; cases e

end Sys2Proof.Laws.FitsFrame
end

