-- ==== Sys2Proof/Laws/Tables.lean ====
section
/-!
SUPPORT. Reading a table after one entry has changed, and the voice and part records after a change of one.
-/

namespace Sys2Proof

/-- The changed entry. -/
@[simp] theorem upd_get_self {α : Type} {n : Nat} (v : Vector α n) (i : Fin n) (f : α → α) :
    (upd v i f)[i.val] = f v[i.val] := by simp [upd]

/-- Every entry after a change. -/
theorem upd_get {α : Type} {n : Nat} (v : Vector α n) (i j : Fin n) (f : α → α) :
    (upd v i f)[j] = if i = j then f v[i] else v[j] := by
  by_cases h : i = j
  · subst h; simp
  · have : i.val ≠ j.val := fun e => h (Fin.ext e)
    simp [upd, h, this]

/-- Another entry is kept. -/
theorem upd_get_ne {α : Type} {n : Nat} (v : Vector α n) {i j : Fin n} (h : i ≠ j) (f : α → α) :
    (upd v i f)[j] = v[j] := by rw [upd_get, if_neg h]

namespace Machine.State

/-- A voice after the change of one. -/
theorem modVoice_voice (s : State) (v w : VoiceId) (f : Voice → Voice) :
    (s.modVoice v f).voice w = if v = w then f (s.voice v) else s.voice w := upd_get ..

@[simp] theorem modVoice_voice_self (s : State) (v : VoiceId) (f : Voice → Voice) :
    (s.modVoice v f).voice v = f (s.voice v) := by simp [modVoice_voice]

@[simp] theorem modVoice_part (s : State) (v : VoiceId) (p : PartId) (f : Voice → Voice) :
    (s.modVoice v f).part p = s.part p := rfl

/-- A part after the change of one. -/
theorem modPart_part (s : State) (p q : PartId) (f : Part → Part) :
    (s.modPart p f).part q = if p = q then f (s.part p) else s.part q := upd_get ..

@[simp] theorem modPart_part_self (s : State) (p : PartId) (f : Part → Part) :
    (s.modPart p f).part p = f (s.part p) := by simp [modPart_part]

@[simp] theorem modPart_voice (s : State) (v : VoiceId) (p : PartId) (f : Part → Part) :
    (s.modPart p f).voice v = s.voice v := rfl

/-- A voice after a voice enters a state. -/
theorem enter_voice (s : State) (v w : VoiceId) (st : VoiceState) :
    (s.enter v st).voice w = if v = w then { s.voice v with state := st } else s.voice w := upd_get ..

@[simp] theorem enter_part (s : State) (v : VoiceId) (p : PartId) (st : VoiceState) :
    (s.enter v st).part p = s.part p := rfl

/-- A gate line after a voice enters a state (R69). -/
theorem enter_gate (s : State) (v w : VoiceId) (st : VoiceState) :
    (s.enter v st).cvo.gates[w] = if v = w then decide (st = .gated) else s.cvo.gates[w] := upd_get ..

/-- A change of one block leaves the part parameters unless it is the Parameter and Binding Unit's. -/
@[simp] theorem modVas_param (s : State) (f : Vas → Vas) (p : PartId) (i : ParamId) :
    (s.modVas f).param p i = s.param p i := rfl

end Machine.State
end Sys2Proof
end

