-- ==== Sys2Proof/Laws/Play.lean ====
section
/-!
SUPPORT. What the Voice Assigner's and the Tuning Unit's shared operations can change: the voices, the parts' lists and
keys, gates and glides, the tune, notices, flags and counters. Everything else stays: the routes and bends, the latched
codes, the panel, the parameters, the page store and the tuning tables.
-/

namespace Sys2Proof.Machine

/-- `t` differs from `s` at most in what playing and tuning a voice changes, its tables apart. -/
structure PlayOnly (s t : State) : Prop where
  phase : t.phase = s.phase
  loadPage : t.loadPage = s.loadPage
  pns : t.pns = s.pns
  pbu : t.pbu = s.pbu
  pmc : t.pmc = s.pmc
  freeDraws : t.freeDraws = s.freeDraws
  pending : t.pending = s.pending
  link : t.lnk = { s.lnk with notices := t.lnk.notices, seq := t.lnk.seq }
  status : t.stu = { s.stu with flags := t.stu.flags, counters := t.stu.counters, alert := t.stu.alert }
  output : t.cvo = { s.cvo with
    gates := t.cvo.gates, glide := t.cvo.glide, glideRate := t.cvo.glideRate, spread := t.cvo.spread }
  tables : t.tun.tables = s.tun.tables
  settleTime : t.tun.settleTime = s.tun.settleTime
  gateGap : t.vas.gateGap = s.vas.gateGap
  tailQuench : t.vas.tailQuench = s.vas.tailQuench
  route : ∀ p, (t.part p).channel = (s.part p).channel ∧ (t.part p).lowKey = (s.part p).lowKey ∧
    (t.part p).highKey = (s.part p).highKey ∧ (t.part p).bend = (s.part p).bend

namespace PlayOnly

theorem refl (s : State) : PlayOnly s s := by constructor <;> intros <;> first | rfl | simp

theorem trans {s t u : State} (h : PlayOnly s t) (k : PlayOnly t u) : PlayOnly s u where
  phase := k.phase.trans h.phase
  loadPage := k.loadPage.trans h.loadPage
  pns := k.pns.trans h.pns
  pbu := k.pbu.trans h.pbu
  pmc := k.pmc.trans h.pmc
  freeDraws := k.freeDraws.trans h.freeDraws
  pending := k.pending.trans h.pending
  link := by rw [k.link, h.link]
  status := by rw [k.status, h.status]
  output := by rw [k.output, h.output]
  tables := k.tables.trans h.tables
  settleTime := k.settleTime.trans h.settleTime
  gateGap := k.gateGap.trans h.gateGap
  tailQuench := k.tailQuench.trans h.tailQuench
  route p := by
    obtain ⟨a, b, c, d⟩ := k.route p
    obtain ⟨e, f, g, i⟩ := h.route p
    exact ⟨a.trans e, b.trans f, c.trans g, d.trans i⟩

theorem ite {s t u : State} {c : Prop} [Decidable c] (h : PlayOnly s t) (k : PlayOnly s u) :
    PlayOnly s (if c then t else u) := by split <;> assumption

theorem foldl {α : Type} {f : State → α → State} (h : ∀ s a, PlayOnly s (f s a)) (l : List α) (s : State) :
    PlayOnly s (l.foldl f s) := by
  induction l generalizing s with
  | nil => exact .refl s
  | cons a l ih => exact (h s a).trans (ih _)

/-- A notice, a flag or a counter. -/
theorem ofStatus {s t : State} (h : StatusOnly s t) : PlayOnly s t where
  phase := h.phase
  loadPage := h.loadPage
  pns := h.pns
  pbu := h.pbu
  pmc := h.pmc
  freeDraws := h.freeDraws
  pending := h.pending
  link := by
    have := h.rx; have := h.gapTimer; have := h.inbound; have := h.slot; have := h.reports; have := h.tx
    cases hl : t.lnk; simp_all
  status := by
    have := h.flagMask; have := h.categoryMask; have := h.noticeMask; have := h.tests
    cases hl : t.stu; simp_all
  output := by rw [h.cvo]
  tables := by rw [h.tun]
  settleTime := by rw [h.tun]
  gateGap := by rw [h.vas]
  tailQuench := by rw [h.vas]
  route p := by simp [State.part, h.vas]

theorem modVoice (s : State) (v : VoiceId) (f : Voice → Voice) : PlayOnly s (s.modVoice v f) := by
  constructor <;> intros <;> first | rfl | exact ⟨rfl, rfl, rfl, rfl⟩

theorem enter (s : State) (v : VoiceId) (st : VoiceState) : PlayOnly s (s.enter v st) := by
  constructor <;> intros <;> first | rfl | exact ⟨rfl, rfl, rfl, rfl⟩

/-- A change of a part record that keeps its route and bend. -/
theorem modPart (s : State) (p : PartId) (f : Part → Part)
    (h : ∀ x, (f x).channel = x.channel ∧ (f x).lowKey = x.lowKey ∧ (f x).highKey = x.highKey ∧ (f x).bend = x.bend) :
    PlayOnly s (s.modPart p f) := by
  constructor <;> intros <;> try rfl
  rename_i q
  rw [State.modPart_part]
  split
  · rename_i e; subst e; exact h _
  · exact ⟨rfl, rfl, rfl, rfl⟩

theorem leaveFree (s : State) (p : PartId) (v : VoiceId) : PlayOnly s (s.leaveFree p v) :=
  modPart _ _ _ (by intro _; exact ⟨rfl, rfl, rfl, rfl⟩)
theorem joinFree (s : State) (p : PartId) (v : VoiceId) : PlayOnly s (s.joinFree p v) :=
  modPart _ _ _ (by intro _; exact ⟨rfl, rfl, rfl, rfl⟩)
theorem leaveActive (s : State) (p : PartId) (v : VoiceId) : PlayOnly s (s.leaveActive p v) :=
  modPart _ _ _ (by intro _; exact ⟨rfl, rfl, rfl, rfl⟩)
theorem joinActive (s : State) (p : PartId) (v : VoiceId) : PlayOnly s (s.joinActive p v) :=
  modPart _ _ _ (by intro _; exact ⟨rfl, rfl, rfl, rfl⟩)
theorem toActiveTail (s : State) (p : PartId) (v : VoiceId) : PlayOnly s (s.toActiveTail p v) :=
  (leaveActive s p v).trans (joinActive ..)
theorem joinOwnFree (s : State) (v : VoiceId) : PlayOnly s (s.joinOwnFree v) := by
  unfold State.joinOwnFree; split
  · exact .refl s
  · exact joinFree ..
theorem leaveLists (s : State) (v : VoiceId) : PlayOnly s (s.leaveLists v) := by
  unfold State.leaveLists; split
  · exact .refl s
  · exact (leaveFree ..).trans (leaveActive ..)

/-- A change of the Tuning Unit that keeps its tables and its settle time. -/
theorem modTun (s : State) (f : Tun → Tun) (h : ∀ x, (f x).tables = x.tables ∧ (f x).settleTime = x.settleTime) :
    PlayOnly s (s.modTun f) := by
  constructor <;> intros <;> first | exact (h _).1 | exact (h _).2 | rfl | exact ⟨rfl, rfl, rfl, rfl⟩

theorem modChannel (s : State) (c : MeasId) (f : Channel → Channel) : PlayOnly s (s.modChannel c f) :=
  modTun _ _ (by intro _; exact ⟨rfl, rfl⟩)

theorem setGlide (v : VoiceId) (g : Option Int) (r : Option Nat) (s : State) : PlayOnly s (setGlide v g r s) := by
  constructor <;> intros <;> first | rfl | exact ⟨rfl, rfl, rfl, rfl⟩

end PlayOnly

open PlayOnly

/-! ### Voices -/

theorem glideStart_playOnly (v : VoiceId) (s : State) : PlayOnly s (glideStart v s) := by
  unfold glideStart; split
  · exact PlayOnly.setGlide ..
  · exact .ite (PlayOnly.setGlide ..) (.ite (PlayOnly.setGlide ..) (PlayOnly.setGlide ..))

theorem dropGlide_playOnly (v : VoiceId) (s : State) : PlayOnly s (dropGlide v s) := by
  constructor <;> intros <;> first | rfl | exact ⟨rfl, rfl, rfl, rfl⟩

theorem silentDecision_playOnly (before : State) (p : PartId) (s : State) : PlayOnly s (silentDecision before p s) :=
  .ite (ofStatus (offerNotice_statusOnly ..)) (.refl s)

theorem silentDecisions_playOnly (before s : State) : PlayOnly s (silentDecisions before s) :=
  .foldl (fun s p => silentDecision_playOnly before p s) _ _

theorem becomeIdle_playOnly (v : VoiceId) (s : State) : PlayOnly s (becomeIdle v s) :=
  (PlayOnly.modVoice ..).trans (PlayOnly.enter ..)

theorem becomeReleased_playOnly (p : PartId) (v : VoiceId) (s : State) : PlayOnly s (becomeReleased p v s) :=
  (PlayOnly.modVoice ..).trans (PlayOnly.enter ..)

theorem releaseVoice_playOnly (p : PartId) (v : VoiceId) (s : State) : PlayOnly s (releaseVoice p v s) :=
  (PlayOnly.leaveActive s p v).trans ((becomeReleased_playOnly ..).trans (PlayOnly.joinFree ..))

theorem freeToActive_playOnly (p : PartId) (v : VoiceId) (s : State) : PlayOnly s (freeToActive p v s) :=
  (PlayOnly.leaveFree s p v).trans (PlayOnly.joinActive ..)

theorem takeNote_playOnly (p : PartId) (v : VoiceId) (n : Note) (vel : Velocity) (held : Bool) (s : State) :
    PlayOnly s (takeNote p v n vel held s) :=
  ((PlayOnly.modVoice s v _).trans (PlayOnly.enter ..)).trans
    ((PlayOnly.ite (freeToActive_playOnly ..) (.refl _)).trans (glideStart_playOnly ..))

theorem beginQuench_playOnly (p : PartId) (v : VoiceId) (next : Option PendingNote) (s : State) :
    PlayOnly s (beginQuench p v next s) :=
  (PlayOnly.modVoice ..).trans (PlayOnly.enter ..)

theorem cancelMember_playOnly (p : PartId) (s : State) (v : VoiceId) : PlayOnly s (cancelMember p s v) := by
  unfold cancelMember
  refine .ite (.refl s) ?_
  split
  · exact (PlayOnly.leaveActive ..).trans ((becomeIdle_playOnly ..).trans (PlayOnly.joinFree ..))
  · exact PlayOnly.modVoice ..
  all_goals exact .refl s

theorem cancelStart_playOnly (p : PartId) (s : State) : PlayOnly s (cancelStart p s) := by
  unfold cancelStart; split
  · exact .refl s
  · exact (PlayOnly.modPart _ _ _ (by intro _; exact ⟨rfl, rfl, rfl, rfl⟩)).trans (.foldl (cancelMember_playOnly p) _ _)

theorem numberFrom_playOnly (i : Nat) (l : List VoiceId) (s : State) : PlayOnly s (numberFrom i l s) := by
  induction l generalizing i s with
  | nil => exact .refl s
  | cons v l ih => exact (PlayOnly.modVoice ..).trans (ih ..)

theorem memberLost_playOnly (p : PartId) (v : VoiceId) (s : State) : PlayOnly s (memberLost p v s) := by
  unfold memberLost; split
  · exact .ite (cancelStart_playOnly ..) (.refl s)
  · exact .ite (numberFrom_playOnly ..) (.refl s)

theorem quenchSilent_playOnly (p : PartId) (s : State) (v : VoiceId) : PlayOnly s (quenchSilent p s v) :=
  .ite ((PlayOnly.modVoice ..).trans (PlayOnly.modVoice ..)) (beginQuench_playOnly ..)

theorem partSilence_playOnly (form : SilenceForm) (p : PartId) (s : State) : PlayOnly s (partSilence form p s) := by
  have unmark : ∀ s v, PlayOnly s (unmarkPending s v) := fun s v => PlayOnly.modVoice ..
  have cleared : PlayOnly s (s.modPart p fun x => { x with start := none, held := [] }) :=
    PlayOnly.modPart _ _ _ (by intro _; exact ⟨rfl, rfl, rfl, rfl⟩)
  unfold partSilence
  cases form
  · exact (cleared.trans (.foldl unmark _ _)).trans (.foldl (fun s v => releaseVoice_playOnly p v s) _ _)
  · exact (cleared.trans (.foldl unmark _ _)).trans (.foldl (quenchSilent_playOnly p) _ _)

theorem assignmentChange_playOnly (p : PartId) (s : State) : PlayOnly s (assignmentChange p s) :=
  (partSilence_playOnly ..).trans (silentDecision_playOnly ..)

theorem becomeDisabled_playOnly (v : VoiceId) (s : State) : PlayOnly s (becomeDisabled v s) :=
  ((PlayOnly.modVoice ..).trans (PlayOnly.enter ..)).trans
    ((dropGlide_playOnly ..).trans (PlayOnly.modTun _ _ (by intro _; exact ⟨rfl, rfl⟩)))

theorem afterLeaving_playOnly (before : State) (v : VoiceId) (s : State) : PlayOnly s (afterLeaving before v s) := by
  unfold afterLeaving; split
  · exact .refl s
  · exact .ite (memberLost_playOnly ..) (.refl s)

theorem enterTuning_playOnly (v : VoiceId) (s : State) : PlayOnly s (enterTuning v s) :=
  ((PlayOnly.leaveLists s v).trans ((PlayOnly.modVoice ..).trans (PlayOnly.enter ..))).trans
    ((dropGlide_playOnly ..).trans (afterLeaving_playOnly ..))

/-! ### Tuning, its successes apart -/

theorem giveOscillator_playOnly (c : MeasId) (o : OscId) (s : State) : PlayOnly s (giveOscillator c o s) := by
  unfold giveOscillator enterSettle
  exact (PlayOnly.modChannel ..).trans (PlayOnly.modChannel ..)

theorem stopVoice_playOnly (v : VoiceId) (s : State) : PlayOnly s (stopVoice v s) := by
  refine .foldl (fun s c => ?_) _ s
  split
  · exact .ite (PlayOnly.modChannel ..) (.refl s)
  · exact .refl s

theorem startInterval_playOnly (s : State) : PlayOnly s (startInterval s) :=
  .ite (.refl s) (PlayOnly.modTun _ _ (by intro _; exact ⟨rfl, rfl⟩))

theorem takeBackground_playOnly (v : VoiceId) (s : State) : PlayOnly s (takeBackground v s) := by
  unfold takeBackground
  exact (enterTuning_playOnly v s).trans ((PlayOnly.modTun _ _ (by intro _; exact ⟨rfl, rfl⟩)).trans
    ((giveOscillator_playOnly ..).trans (giveOscillator_playOnly ..)))

theorem advancePass_playOnly (s : State) : PlayOnly s (advancePass s) := by
  unfold advancePass
  split
  · exact .refl s
  · split
    · exact .refl s
    · exact takeBackground_playOnly ..

theorem settlePass_playOnly (before s : State) : PlayOnly s (settlePass before s) :=
  .ite (startInterval_playOnly s) (advancePass_playOnly s)

/-- With no pass before an event or after it, no voice is taken at its end. -/
theorem settlePass_noPass {before s : State} (h : before.tun.passList = []) (k : s.tun.passList = []) :
    settlePass before s = s := by
  unfold settlePass advancePass
  simp only [h, k]
  cases s.tun.background <;> simp

theorem yieldBackground_playOnly (s : State) : PlayOnly s (yieldBackground s) := by
  unfold yieldBackground; split
  · exact .refl s
  · exact ((stopVoice_playOnly ..).trans (ofStatus (countUp_statusOnly ..))).trans
      ((becomeIdle_playOnly ..).trans ((PlayOnly.joinOwnFree ..).trans
        ((PlayOnly.modTun _ _ (by intro _; exact ⟨rfl, rfl⟩)).trans (PlayOnly.modTun _ _ (by intro _; exact ⟨rfl, rfl⟩)))))

/-! ### Keys -/

theorem takeFree_playOnly (p : PartId) (v : VoiceId) (n : Note) (vel : Velocity) (s : State) :
    PlayOnly s (takeFree p v n vel s) :=
  .ite ((beginQuench_playOnly ..).trans (freeToActive_playOnly ..)) (takeNote_playOnly ..)

/-- A voice obtained for a note (R26, R27). -/
theorem obtainVoice_playOnly {p : PartId} {n : Note} {vel : Velocity} {s t : State} (h : obtainVoice p n vel s = some t) :
    PlayOnly s t := by
  unfold obtainVoice at h
  split at h
  · cases h; exact takeFree_playOnly ..
  · obtain ⟨b, -, rfl⟩ := Option.map_eq_some_iff.1 h
    exact (yieldBackground_playOnly s).trans (takeFree_playOnly ..)

theorem stealVoice_playOnly (p : PartId) (v : VoiceId) (n : Note) (vel : Velocity) (s : State) :
    PlayOnly s (stealVoice p v n vel s) :=
  .ite ((beginQuench_playOnly ..).trans (PlayOnly.toActiveTail ..))
    (.ite (PlayOnly.modVoice ..) ((PlayOnly.modVoice ..).trans (PlayOnly.toActiveTail ..)))

theorem polyAllocate_playOnly (p : PartId) (n : Note) (vel : Velocity) (s : State) :
    PlayOnly s (polyAllocate p n vel s) := by
  unfold polyAllocate
  split
  · rename_i h; exact (obtainVoice_playOnly h).trans (ofStatus (countUp_statusOnly ..))
  · split
    · exact (stealVoice_playOnly ..).trans (ofStatus ((countUp_statusOnly ..).trans (countUp_statusOnly ..)))
    · exact ofStatus (countUp_statusOnly ..)

theorem beginGap_playOnly (v : VoiceId) (s : State) : PlayOnly s (beginGap v s) :=
  (PlayOnly.modVoice ..).trans (PlayOnly.enter ..)

theorem reuseVoice_playOnly (p : PartId) (v : VoiceId) (n : Note) (vel : Velocity) (s : State) :
    PlayOnly s (reuseVoice p v n vel s) :=
  (PlayOnly.ite (beginGap_playOnly v s) (.refl s)).trans ((PlayOnly.modVoice ..).trans (PlayOnly.toActiveTail ..))

theorem polyDown_playOnly (p : PartId) (n : Note) (vel : Velocity) (s : State) : PlayOnly s (polyDown p n vel s) := by
  unfold polyDown
  split
  · exact .ite ((reuseVoice_playOnly ..).trans (ofStatus (countUp_statusOnly ..)))
      ((releaseVoice_playOnly ..).trans (polyAllocate_playOnly ..))
  · split
    · exact (PlayOnly.modVoice ..).trans (ofStatus (countUp_statusOnly ..))
    · exact polyAllocate_playOnly ..

theorem polyUp_playOnly (p : PartId) (n : Note) (s : State) : PlayOnly s (polyUp p n s) := by
  unfold polyUp
  split
  · exact .ite (PlayOnly.modVoice ..) (releaseVoice_playOnly ..)
  · split
    · exact .ite (PlayOnly.modVoice ..) (PlayOnly.modVoice ..)
    · exact .refl s

theorem writeNote_playOnly (v : VoiceId) (n : Note) (vel : Velocity) (s : State) : PlayOnly s (writeNote v n vel s) :=
  (PlayOnly.modVoice ..).trans (glideStart_playOnly ..)

theorem rePitch_playOnly (p : PartId) (arriving : Option (Note × Velocity)) (P : Note) (s : State) (v : VoiceId) :
    PlayOnly s (rePitch p arriving P s v) := by
  unfold rePitch
  dsimp only
  split
  · exact (PlayOnly.modVoice ..).trans (.ite (.refl _) (.ite (writeNote_playOnly ..)
      ((beginGap_playOnly ..).trans (writeNote_playOnly ..))))
  · exact (PlayOnly.modVoice ..).trans (.ite (writeNote_playOnly ..) (.refl _))
  · exact (PlayOnly.modVoice ..).trans (PlayOnly.modVoice ..)
  all_goals exact .refl s

theorem joinRecord_playOnly (p : PartId) (s : State) (v : VoiceId) : PlayOnly s (joinRecord p s v) :=
  (PlayOnly.ite (beginQuench_playOnly ..) ((PlayOnly.modVoice ..).trans (PlayOnly.enter ..))).trans
    (freeToActive_playOnly ..)

theorem makeRecord_playOnly (p : PartId) (members : List VoiceId) (waiting : Nat) (P : Note) (vel : Velocity) (s : State) :
    PlayOnly s (makeRecord p members waiting P vel s) := PlayOnly.modPart _ _ _ (by intro _; exact ⟨rfl, rfl, rfl, rfl⟩)

theorem startStack_playOnly {p : PartId} {P : Note} {vel : Velocity} {s t : State} (h : startStack p P vel s = some t) :
    PlayOnly s t := by
  unfold startStack at h
  dsimp only at h
  split at h
  · cases h; exact (numberFrom_playOnly ..).trans (makeRecord_playOnly ..)
  · split at h
    · split at h <;> cases h
      · exact (numberFrom_playOnly ..).trans
          ((PlayOnly.foldl (joinRecord_playOnly p) _ _).trans (makeRecord_playOnly ..))
      · exact (numberFrom_playOnly ..).trans (PlayOnly.foldl (fun s v => takeNote_playOnly ..) _ _)
    · obtain ⟨b, -, rfl⟩ := Option.map_eq_some_iff.1 h
      exact (yieldBackground_playOnly s).trans ((numberFrom_playOnly ..).trans (takeNote_playOnly ..))

/-- A MONO or UNISON part that serves its held list. -/
theorem serveHeld_playOnly {p : PartId} {arriving : Option (Note × Velocity)} {P : Note} {changed : Bool} {s t : State}
    (h : serveHeld p arriving P changed s = some t) : PlayOnly s t := by
  unfold serveHeld unisonServe monoServe at h
  dsimp only at h
  split at h
  · split at h
    · split at h <;> cases h
      · exact PlayOnly.modPart _ _ _ (by intro _; exact ⟨rfl, rfl, rfl, rfl⟩)
      · exact .refl s
    · split at h
      · cases h; exact .foldl (rePitch_playOnly p arriving P) _ _
      · split at h
        · exact startStack_playOnly h
        · cases h
  · split at h
    · cases h; exact rePitch_playOnly ..
    · split at h
      · exact obtainVoice_playOnly h
      · cases h

theorem letGo_playOnly (p : PartId) (s : State) (v : VoiceId) : PlayOnly s (letGo p s v) :=
  .ite (.ite (PlayOnly.modVoice ..) (releaseVoice_playOnly ..))
    (.ite (.ite (PlayOnly.modVoice ..) (PlayOnly.modVoice ..)) (.refl s))

theorem heldEmptied_playOnly (p : PartId) (s : State) : PlayOnly s (heldEmptied p s) :=
  .ite (.ite (.refl s) (cancelStart_playOnly ..)) (.foldl (letGo_playOnly p) _ _)

/-- A KEY_DOWN in one part. -/
theorem keyDownPart_playOnly (n : Note) (vel : Velocity) (s : State) (p : PartId) : PlayOnly s (keyDownPart n vel s p) := by
  refine (PlayOnly.modPart s p _ (by intro _; exact ⟨rfl, rfl, rfl, rfl⟩)).trans (.ite (polyDown_playOnly ..) ?_)
  split
  · exact ofStatus (countUp_statusOnly ..)
  · split
    · rename_i h; exact (serveHeld_playOnly h).trans (ofStatus (countUp_statusOnly ..))
    · exact ofStatus (countUp_statusOnly ..)

/-- A KEY_UP in one part. -/
theorem keyUpPart_playOnly (n : Note) (s : State) (p : PartId) : PlayOnly s (keyUpPart n s p) := by
  refine (PlayOnly.modPart s p _ (by intro _; exact ⟨rfl, rfl, rfl, rfl⟩)).trans
    (PlayOnly.trans (.ite (polyUp_playOnly ..) ?_) (silentDecision_playOnly ..))
  split
  · exact .ite (heldEmptied_playOnly ..) (.refl _)
  · cases h : serveHeld p none _ _ _ with
    | none => exact .refl _
    | some t => exact serveHeld_playOnly h

end Sys2Proof.Machine
end

