-- ==== Sys2Proof/Laws/Requests.lean ====
section
/-!
SUPPORT. The field checks and the reply of a request, as its handler uses them.
-/

namespace Sys2Proof.Machine

/-- A field that spells an identifier. -/
theorem ident?_byte {n : Nat} (h : n ≤ 256) (k : Fin n) : ident? n (byte k.val).toNat = some k := by
  have : (byte k.val).toNat = k.val := by simp [byte]; omega
  simp [ident?, this, k.isLt]

/-- A slot field that spells a slot. -/
theorem slot?_ofNat (l : SlotId) : slot? (BitVec.ofNat 16 l.val) = some l := by
  have : (BitVec.ofNat 16 l.val).toNat = l.val := by simp; omega
  simp [slot?, ident?, this, l.isLt]

/-- A field out of range. -/
theorem ident?_none {n x : Nat} (h : n ≤ x) : ident? n x = none := by simp [ident?]; omega

/-- Two states alike but for the reply slot are alike once the same reply fills it. -/
theorem slot_filled {s t : State} (x : ReplySlot)
    (same : (t.modLnk fun l => { l with slot := .empty }) = s.modLnk fun l => { l with slot := .empty }) :
    (t.modLnk fun l => { l with slot := x }) = s.modLnk fun l => { l with slot := x } := by
  have := congrArg (fun u : State => u.modLnk fun l => { l with slot := x }) same
  simpa only [State.modLnk] using this

end Sys2Proof.Machine
end

