-- ==== Sys2Proof/Laws/Store.lean ====
section
/-!
SUPPORT. The page store keeps its canonical form under every operation, and a byte read after a write.
-/

namespace Sys2Proof.Machine.Memory

/-- Strictly rising addresses. -/
abbrev Rising (m : Memory) : Prop := m.Pairwise fun x y => x.1 < y.1

theorem mem_of_mem_drop {m : Memory} {a : Nat} {c : Host.Cell} (h : c ∈ m.drop a) : c ∈ m := by
  induction m with
  | nil => simp [drop] at h
  | cons x m ih =>
    obtain ⟨k, b⟩ := x
    simp only [drop] at h
    split at h
    · exact List.mem_cons_of_mem _ h
    · rcases List.mem_cons.1 h with rfl | h
      · simp
      · exact List.mem_cons_of_mem _ (ih h)

theorem mem_put {m : Memory} {a : Nat} {b : Byte} {c : Host.Cell} (h : c ∈ m.put a b) : c = (a, b) ∨ c ∈ m := by
  induction m with
  | nil => simpa [put] using h
  | cons x m ih =>
    obtain ⟨k, d⟩ := x
    simp only [put] at h
    split at h
    · simpa using h
    · split at h
      · rcases List.mem_cons.1 h with h | h
        · exact .inl h
        · exact .inr (List.mem_cons_of_mem _ h)
      · rcases List.mem_cons.1 h with rfl | h
        · simp
        · exact (ih h).imp_right (List.mem_cons_of_mem _)

theorem drop_rising {m : Memory} (h : m.Rising) (a : Nat) : (m.drop a).Rising := by
  induction m with
  | nil => exact h
  | cons x m ih =>
    obtain ⟨k, b⟩ := x
    obtain ⟨hx, hm⟩ := List.pairwise_cons.1 h
    simp only [drop]
    split
    · exact hm
    · exact List.pairwise_cons.2 ⟨fun y hy => hx y (mem_of_mem_drop hy), ih hm⟩

theorem put_rising {m : Memory} (h : m.Rising) (a : Nat) (b : Byte) : (m.put a b).Rising := by
  induction m with
  | nil => simp [put]
  | cons x m ih =>
    obtain ⟨k, d⟩ := x
    obtain ⟨hx, hm⟩ := List.pairwise_cons.1 h
    simp only [put]
    split
    · rename_i hak
      refine List.pairwise_cons.2 ⟨fun y hy => ?_, h⟩
      rcases List.mem_cons.1 hy with rfl | hy
      · exact hak
      · exact Nat.lt_trans hak (hx y hy)
    · split
      · rename_i hak
        subst hak
        exact List.pairwise_cons.2 ⟨hx, hm⟩
      · refine List.pairwise_cons.2 ⟨fun y hy => ?_, ih hm⟩
        rcases mem_put hy with rfl | hy
        · simp only; omega
        · exact hx y hy

/-- Writing one byte keeps the canonical form. -/
theorem write_wf {m : Memory} (h : m.wf) {a : Nat} (ha : a < storeSize) (b : Byte) : (m.write a b).wf := by
  unfold write
  split
  · exact ⟨drop_rising h.1 a, fun c hc => h.2 c (mem_of_mem_drop hc)⟩
  · rename_i hb
    refine ⟨put_rising h.1 a b, fun c hc => ?_⟩
    rcases mem_put hc with rfl | hc
    · exact ⟨ha, hb⟩
    · exact h.2 c hc

/-- An address of a page lies in the store. -/
theorem pageAddr_lt (p : PageNo) (i : Fin 64) : pageAddr p i.val < storeSize := by
  unfold pageAddr storeSize; omega

theorem foldl_write_wf (p : PageNo) (page : Page) (l : List (Fin 64)) {m : Memory} (h : m.wf) :
    (l.foldl (fun m i => m.write (pageAddr p i.val) page[i]) m).wf := by
  induction l generalizing m with
  | nil => exact h
  | cons i l ih => exact ih (write_wf h (pageAddr_lt p i) _)

/-- Programming or erasing a page keeps the canonical form. -/
theorem setPage_wf {m : Memory} (h : m.wf) (p : PageNo) (page : Page) : (m.setPage p page).wf :=
  foldl_write_wf p page _ h

/-- The store after reset has the canonical form. -/
theorem nil_wf : wf ([] : Memory) := by simp [wf]

theorem read_of_lt {m : Memory} {a : Nat} (h : ∀ c ∈ m, a < c.1) : m.read a = unlisted a := by
  induction m with
  | nil => rfl
  | cons x m ih =>
    obtain ⟨k, b⟩ := x
    have := h (k, b) (by simp)
    simp only [read]
    rw [if_neg (by simp only at this; omega)]
    exact ih fun c hc => h c (by simp [hc])

theorem read_drop {m : Memory} (h : m.Rising) (a x : Nat) :
    (m.drop a).read x = if x = a then unlisted a else m.read x := by
  induction m with
  | nil => simp only [drop, read]; split <;> simp_all
  | cons y m ih =>
    obtain ⟨k, b⟩ := y
    obtain ⟨hy, hm⟩ := List.pairwise_cons.1 h
    simp only [drop]
    split
    · rename_i hk
      subst hk
      simp only [read]
      by_cases hx : x = k
      · subst hx; simpa using read_of_lt hy
      · simp [hx, Ne.symm hx]
    · simp only [read, ih hm]
      by_cases hx : x = a
      · subst hx; simp_all
      · simp [hx]

theorem read_put (m : Memory) (a x : Nat) (b : Byte) : (m.put a b).read x = if x = a then b else m.read x := by
  induction m with
  | nil => simp [put, read, eq_comm]
  | cons y m ih =>
    obtain ⟨k, d⟩ := y
    simp only [put]
    split
    · simp [read, eq_comm]
    · split
      · rename_i hk
        subst hk
        simp only [read]
        by_cases hx : x = a <;> simp [hx, Ne.symm]
      · rename_i h1 h2
        simp only [read, ih]
        by_cases hx : x = a
        · subst hx; simp [Ne.symm h2]
        · simp [hx]

/-- A byte after one byte has been written. -/
theorem read_write {m : Memory} (h : m.wf) (a x : Nat) (b : Byte) :
    (m.write a b).read x = if x = a then b else m.read x := by
  unfold write
  split
  · rename_i hb; rw [read_drop h.1, hb]
  · exact read_put ..

/-- A byte after the bytes of a page at the places listed have been written. -/
theorem read_foldl_write (p : PageNo) (page : Page) (x : Nat) (l : List (Fin 64)) {m : Memory} (h : m.wf) :
    (l.foldl (fun m i => m.write (pageAddr p i.val) page[i]) m).read x =
      if _ : ∃ i ∈ l, x = pageAddr p i.val then page[x % 64]'(Nat.mod_lt _ (by decide)) else m.read x := by
  induction l generalizing m with
  | nil => simp
  | cons j l ih =>
    rw [List.foldl_cons, ih (write_wf h (pageAddr_lt p j) _), read_write h]
    have at_j : x = pageAddr p j.val → x % 64 = j.val := by rintro rfl; simp only [pageAddr]; omega
    by_cases later : ∃ i ∈ l, x = pageAddr p i.val
    · obtain ⟨i, hi, e⟩ := later
      rw [dif_pos ⟨i, hi, e⟩, dif_pos ⟨i, List.mem_cons_of_mem _ hi, e⟩]
    · by_cases now : x = pageAddr p j.val
      · rw [dif_neg later, if_pos now, dif_pos ⟨j, by simp, now⟩]
        simp [at_j now]
      · rw [dif_neg later, if_neg now, dif_neg]
        rintro ⟨i, hi, e⟩
        rcases List.mem_cons.1 hi with rfl | hi
        · exact now e
        · exact later ⟨i, hi, e⟩

/-- A page programmed reads as it was given. -/
theorem page_setPage {m : Memory} (h : m.wf) (p : PageNo) (page : Page) : (m.setPage p page).page p = page := by
  apply Vector.ext
  intro i hi
  simp only [Memory.page, Vector.getElem_ofFn, setPage]
  rw [read_foldl_write p page _ _ h, dif_pos ⟨⟨i, hi⟩, List.mem_finRange _, rfl⟩]
  have : pageAddr p i % 64 = i := by simp only [pageAddr]; omega
  simp only [this]

/-- Every other page keeps its bytes. -/
theorem page_setPage_ne {m : Memory} (h : m.wf) {p q : PageNo} (page : Page) (ne : q ≠ p) :
    (m.setPage p page).page q = m.page q := by
  apply Vector.ext
  intro i hi
  simp only [Memory.page, Vector.getElem_ofFn, setPage]
  rw [read_foldl_write p page _ _ h, dif_neg]
  rintro ⟨j, -, e⟩
  simp only [pageAddr] at e
  exact ne (Fin.ext (by omega))

/-- A page of the store as shipped, with nothing listed. -/
theorem nil_page (p : PageNo) : Memory.page [] p = shippedPage p := by
  apply Vector.ext
  intro i hi
  have quotient : (64 * p.val + i) / 64 = p.val := by omega
  simp [Memory.page, Memory.read, unlisted, pageAddr, quotient, p.isLt, Nat.mod_eq_of_lt hi]

end Sys2Proof.Machine.Memory
end

