-- ==== Sys2Proof/Tests/Slice0.lean ====
section
/-!
SUPPORT. Tests of the model: ill-formed commands refused, one step on a small state with the result the manual gives, and
for each statement with hypotheses a state and operands that meet them, at the boundary values of its clauses.
-/

-- The kernel evaluations below run one after another, so that each has the memory it needs in the joined package.
set_option Elab.async false

namespace Sys2Proof.Tests

open Sys2Proof.Machine

/-! ### Small states -/

/-- The part right after READY, for the tests: the reset values, RUNNING. -/
def ready : State := { State.reset with phase := .running }

/-- The part right after RESETn is released. -/
def loading : State := { State.reset with phase := .loading }

/-- The state a command leaves. -/
def after (i : Instr) (s : State) : State :=
  match exec i s with
  | .next t => t
  | .fault _ | .refused _ => s

/-- The reply on the TX line. -/
def reply (s : State) : Option Frame :=
  match s.lnk.tx with
  | some (.reply f) => some f
  | some (.notice _ _) | none => none

/-- `ready` with a parameter of part 0. -/
def withParam (i : ParamId) (n : Nat) (s : State) : State :=
  s.modPbu fun b => { b with live := upd b.live 0 fun l => upd l i fun _ => n }

/-- A voice of part 0 in a state, moved from the free to the active list. -/
def withActive (v : VoiceId) (x : Voice) (s : State) : State :=
  ((s.leaveFree 0 v).joinActive 0 v).modVoice v fun _ => x

/-- A GATED voice on note 60, velocity 100, its key held. -/
def gated : Voice :=
  { Voice.reset with state := .gated, sound := some (60, 100), keyHeld := true, lastPlayed := some 60 }

/-- A QUENCHING voice with no note to take. -/
def quenching : Voice := { Voice.reset with state := .quenching, sound := some (60, 100), quench := some 8 }

/-- A notice queue of n notices. -/
def withNotices (n : Nat) (s : State) : State := s.modLnk fun l => { l with notices := List.replicate n (0, .ready) }

/-- The transmitter busy with a notice. -/
def sending (s : State) : State := s.modLnk fun l => { l with tx := some (.notice 0 .ready) }

/-- A counter at a value. -/
def withCounter (c : CounterId) (n : BitVec 16) (s : State) : State :=
  s.modStu fun u => { u with counters := upd u.counters c fun _ => n }

/-- Channel 0 holds oscillator 6 in a state at a breakpoint with a test code. -/
def withChannel (x : Channel) (s : State) : State := s.modTun fun t => { t with channels := upd t.channels 0 fun _ => x }

/-- Oscillator 6 in COUNT at breakpoint 4, seven edges counted, d = 24576 (4.3.3). -/
def counting : Channel :=
  { Channel.reset with state := .count, osc := some 6, breakpoint := 4, code := 24576, countTimer := some 200, edges := 7 }

/-! ### Ill-formed commands -/

theorem test_illformed_known_kind : (Instr.unknownKindFrame 0x10 0 []).wellFormed = false := by decide
theorem test_illformed_performance_kind : (Instr.unknownKindFrame 0x05 0 []).wellFormed = false := by decide
theorem test_illformed_too_long : (Instr.unknownKindFrame 0x06 0 (List.replicate 33 0)).wellFormed = false := by decide
theorem test_wellformed_longest : (Instr.unknownKindFrame 0x06 0 (List.replicate 32 0)).wellFormed = true := by decide
theorem test_no_word_spells_a_command : decodeTableWord 8 0 = none := by decide

/-! ### Link, frames and checks (Sections 8 and 10) -/

/-- R209: the check values. -/
theorem test_crc8 : crc8 [0x31, 0x32, 0x33, 0x34, 0x35, 0x36, 0x37, 0x38, 0x39] = 0xF4 := by decide +kernel
theorem test_crc16 : crc16 [0x31, 0x32, 0x33, 0x34, 0x35, 0x36, 0x37, 0x38, 0x39] = 0x29B1 := by decide +kernel
/-- 10.1.1: the frame of a KEY_DOWN. -/
theorem test_worked_frame :
    (frameOf (.keyDown 0 60 100)).map frameBytes = some [0xD3, 3, 1, 0, 0, 0x3C, 0x64, 0x27] := by decide +kernel
/-- 10.2: BEND 80h 00h is -32768. -/
theorem test_bend_fields : frameMeaning ⟨3, 0, [0, 0x80, 0x00]⟩ = .message (.bend 0 0x8000) := by decide
/-- R175, check 3: a wrong length. -/
theorem test_wrong_length : frameMeaning ⟨2, 0, [0, 60, 1]⟩ = .wrongLength := by decide
/-- R169: SYNC begins a frame; a LEN above 32 ends it. -/
theorem test_sync : (after (.receivedByte 0xD3) ready).lnk.rx = .len := by decide +kernel
theorem test_long_len :
    (after (.receivedByte 33) (ready.modLnk fun l => { l with rx := .len })).stu.counters[cFramesDiscarded] = 1 := by
  decide +kernel
/-- R175: NOT_READY (6) before READY, BAD_KIND (1) for an unknown kind. -/
theorem test_not_ready : reply (after (.getPart 9 0) loading) = some ⟨0x98, 9, [6]⟩ := by decide +kernel
theorem test_bad_kind : reply (after (.unknownKindFrame 0x06 9 []) ready) = some ⟨0x86, 9, [1]⟩ := by decide +kernel
/-- R187. -/
theorem test_identify :
    reply (after (.identify 1) loading) = some ⟨0x90, 1, [0, 0x45, 0x46, 0x16, 0x32, 1, 16, 4, 0]⟩ := by decide +kernel
/-- R185: SCAN_PERIOD is clamped to 16. -/
theorem test_set_global : reply (after (.setGlobal 1 3 100) ready) = some ⟨0x92, 1, [0, 3, 0, 16]⟩ := by decide +kernel
/-- 9.9: one lost notice counts three times when NOTICES_LOST stood at 49151 and NOTICE_LOST was clear. -/
theorem test_loss_at_the_threshold :
    let s := offerNotice (.partSilent 0) (withCounter cNoticesLost 49151 (withNotices 24 ready))
    s.stu.counters[cNoticesLost] = 49154 ∧ s.lnk.seq = 3 := by decide +kernel

/-! ### Voices, parts and notes (Sections 1 and 2) -/

/-- R9: the keys are swapped. -/
theorem test_set_route : reply (after (.setRoute 1 1 0xFF 90 20) ready) = some ⟨0x94, 1, [0, 1, 0xFF, 20, 90]⟩ := by
  decide +kernel
/-- R22, R26: the voice at the free list head takes the note. -/
theorem test_key_down :
    let s := after (.keyDown 0 60 100) ready
    (s.voice 0).sound = some (60, 100) ∧ s.cvo.gates[(0 : VoiceId)] = true ∧ (s.part 0).active = [0] := by
  decide +kernel
/-- R30, R3: a KEY_UP with the pedal up releases; AMP_RELEASE 100 gives a hold of 1020 ms. -/
theorem test_key_up : ((after (.keyUp 0 60) (withActive 0 gated ready)).voice 0).releaseHold = some 1020 := by
  decide +kernel
/-- R43: a value below -8192 is clamped. -/
theorem test_bend : ((after (.bend 0 0x8000) ready).part 0).bend = -8192 := by decide +kernel
/-- R33. -/
theorem test_pedal : ((after (.pedal 0 1) ready).part 0).pedal = true := by decide +kernel
/-- R44: QUENCH. -/
theorem test_silence : ((after (.silence 1 1) (withActive 0 gated ready)).voice 0).state = .quenching := by
  decide +kernel
/-- R31. -/
theorem test_quench_expiry : ((after (.quenchExpiry 0) (withActive 0 quenching ready)).part 0).free.getLast? = some 0 := by
  decide +kernel
/-- R11: a GATED voice moved to part 1 is RELEASED there (1.5.1). -/
theorem test_set_pool :
    let s := after (.setPool 1 ((Vector.replicate 16 0).set 0 1)) (withActive 0 gated ready)
    (s.voice 0).state = .released ∧ (s.part 1).free = [0] := by decide +kernel
/-- R13. -/
theorem test_disable : ((after (.setVoiceEnable 1 3 0) ready).voice 3).state = .disabled := by decide +kernel
/-- R17: the free list of part 0 after reset is 0 to 15. -/
theorem test_get_lists :
    reply (after (.getLists 1 0 0) ready) =
      some ⟨0x99, 1, [0, 16, 0, 1, 2, 3, 4, 5, 6, 7, 8, 9, 10, 11, 12, 13, 14, 15]⟩ := by decide +kernel

/-! ### CV output (3.8) -/

/-- 3.4.2: bend offsets and spreads, trunc toward zero. -/
theorem test_bend_offset : truncDiv (-100 * 2) 16 = -12 ∧ truncDiv (8191 * 2) 16 = 1023 := by decide
theorem test_spreads :
    (memberSpread 300 0 4, memberSpread 300 1 4, memberSpread 1023 0 2, memberSpread 1023 1 2) =
      ((-150, -50, -511, 511) : Int × Int × Int × Int) := by decide
/-- 3.8.1 to 3.8.4. -/
theorem test_pitch_codes :
    correctPitch #v[0, 0, 0, 0, 51, 75, 0, 0, 0, 0, 0, 0] 26890 = 26950 ∧
    correctPitch #v[0, 0, 0, 0, -20, -8, 0, 0, 0, 0, 0, 0] 30462 = 30453 ∧
    correctPitch #v[0, 0, 0, 0, 0, 0, 10, 7, 0, 0, 0, 0] 39936 = 39944 ∧
    correctPitch #v[0, 0, 0, 0, 0, 0, 0, 0, 0, 0, -30, -60] 70000 = 65485 ∧
    correctPitch #v[40, 0, 0, 0, 0, 0, 0, 0, 0, 0, 0, 0] (-2348) = 40 := by decide +kernel
/-- 3.8.5, the first row, over the parameters of part 0. -/
theorem test_cutoff :
    cutoffCode ((withParam pCutoff 600 (withParam pKeyTrack 32 (withParam pVelToCutoff 40 ready))).modVoice 3
      fun x => { x with sound := some (72, 100) }) 3 = 49472 := by decide +kernel
/-- 3.8.6: TIME with GLIDE_AMOUNT 5 over 1536 pu moves by 308. -/
theorem test_glide : timeRate 26624 28160 5 = 308 ∧ stepToward 26624 28160 308 = 26932 ∧
    stepToward 27856 28160 308 = 28160 := by decide
/-- R56, R63: a voice that has not played sounds note 60, 24576 pu. -/
theorem test_output_visit :
    (after .outputVisit (ready.modCvo fun c => { c with position := some 0 })).cvo.latched[(0 : OutputId)] = 24576 := by
  decide +kernel

/-! ### Tuning (4.3.3) -/

theorem test_search_steps :
    searchStep 246041 = 51 ∧ searchStep 244629 = 0 ∧ searchStep 250000 = 195 ∧ searchStep (244624 - 55) = -2 := by
  decide +kernel
theorem test_extrapolation :
    finishedTable #v[some 12, some 20, some 0, some 0, some 0, some 0, some 0, some 3000, some 3900] =
      #v[4, 12, 20, 0, 0, 0, 0, 0, 3000, 3900, 4095, 4095] ∧
    finishedTable #v[some 12, some 20, some 0, some 0, some 0, some 0, some 0, some 80, some 95] =
      #v[4, 12, 20, 0, 0, 0, 0, 0, 80, 95, 110, 125] := by decide +kernel
/-- The first measurement of the worked search moves the code to 24627. -/
theorem test_measurement :
    (after (.oscRisingEdge 6 246041) (withChannel counting ready)).tun.channels[(0 : MeasId)].code = 24627 := by
  decide +kernel
/-- R81. -/
theorem test_no_signal :
    (after (.countTimerExpiry 0) (withChannel counting ready)).stu.counters[cTuneFails] = 1 := by decide +kernel
/-- R84, R86. -/
theorem test_tune_start :
    (after (.tuneStart 7 0x0013) ready).tun.channels[(2 : MeasId)].osc = some 2 := by decide +kernel

/-! ### Panel (5.3.1, 5.4) -/

theorem test_accumulate : accumulate 8000 2100 = 8100 ∧ accumulate 16365 4095 = 16369 ∧ moves? 1023 1021 3 = true ∧
    moves? 517 514 3 = false := by decide
theorem test_debounce : debounce ⟨some false, 2⟩ true = (⟨some true, 0⟩, true) ∧
    debounce ⟨none, 0⟩ true = (⟨some true, 0⟩, false) := by decide
/-- R118: a tested reference reads as 0 and holds nothing. -/
theorem test_tested_reference :
    let s := after (.referenceConversion ⟨3072, none⟩) (ready.modPns fun x =>
      { x with position := .refHigh, refLow := ⟨1, 0, true⟩ })
    s.pns.position = .readback ∧ s.stu.flags[fRefLow] = ⟨true, true⟩ ∧ s.pns.refLow.count = 1 := by decide +kernel

/-- At REF_HIGH with controls 5 and 6 turned to 562, control 5 bound to RESONANCE of part 0, and the CHECK byte of a
SET_PARAM of RESONANCE to 7 about to come. -/
def meeting : State :=
  let turnedTo : Filter := ⟨some 2250, true, 9000, some 562, some 500⟩
  { ready with
    pns := { ready.pns with
      position := .refHigh, refLow := ⟨0, 1024, false⟩,
      filters := upd (upd ready.pns.filters 5 fun _ => turnedTo) 6 fun _ => turnedTo },
    pbu := { ready.pbu with bindings := upd ready.pbu.bindings 5 fun _ => ⟨.part 0, pResonance, .jump, 3, true⟩ },
    lnk := { ready.lnk with rx := .check 4 0x1A 9 [0, byte pResonance, 0, 7] } }
/-- The CHECK byte of that frame. -/
def meetingCheck : Byte := crc8 [4, 0x1A, 9, 0, byte pResonance, 0, 7]
/-- R112, and the first meeting of 5.8: a SET_PARAM taken before the motion event of control 5 holds until it, and one taken
after it overwrites it. -/
theorem test_request_between_motions :
    (after (.referenceConversion ⟨3072, some ⟨5, .byteReceived meetingCheck⟩⟩) meeting).param 0 pResonance =
      scaled pResonance 562 ∧
    (after (.referenceConversion ⟨3072, some ⟨6, .byteReceived meetingCheck⟩⟩) meeting).param 0 pResonance = 7 := by
  decide +kernel
/-- R112: both motion events are made, and the pass goes on to READBACK. -/
theorem test_pass_goes_on :
    let s := after (.referenceConversion ⟨3072, some ⟨6, .byteReceived meetingCheck⟩⟩) meeting
    s.pns.position = .readback ∧ s.pns.filters[(6 : ControlId)].motion = some 562 ∧
      reply s = none ∧ s.lnk.slot = .full ⟨0x9A, 9, [0, 0, byte pResonance, 0, 7]⟩ := by decide +kernel

/-! ### Parameters and controls (6.2.1, 6.4) -/

theorem test_set_param :
    reply (after (.setParam 1 0 17 1500) ready) = some ⟨0x9A, 1, [0, 0, 17, 3, 0xFF]⟩ := by decide +kernel
theorem test_scaled :
    scaled pQuenchTime 300 = 15 ∧ scaled pKeyTrack 1023 = 64 ∧ scaled pUnisonCount 512 = 9 ∧
    pickupWindow pCutoff = 8 ∧ pickupWindow pVelToCutoff = 1 ∧ pickupWindow pKeyTrack = 0 := by decide

/-! ### Patch memory, status and start-up (Sections 7, 9, 11) -/

/-- R155: bank 1 as shipped is at level 1, which the load brings; a STORE to it is refused PROTECTED (5). -/
theorem test_store_denied :
    reply (after (.store 1 0 256 0 (Vector.replicate 12 0x20)) (ready.modBank 1 fun b => { b with level := 1 })) =
      some ⟨0xA1, 1, [5]⟩ := by decide +kernel
/-- R150: a recall of a blocked bank waits. -/
theorem test_recall_waits :
    (after (.recallSlot 1 0 5) (ready.modBank 0 fun b => { b with blocked := true })).pmc.recalls[(0 : PartId)] =
      some ⟨5, 1, .waiting⟩ := by decide +kernel
/-- R198: the self-test of FRAME_CHECK is DETECTED (2) and forces the flag. -/
theorem test_monitor :
    let s := after (.testMonitor 1 8) ready
    reply s = some ⟨0xBA, 1, [0, 2]⟩ ∧ s.stu.flags[fFrameCheck] = ⟨true, true⟩ := by decide +kernel
/-- R202. -/
theorem test_get_counters :
    reply (after (.getCounters 1 8 2 0) (withCounter (cSteals 0) 49152 ready)) =
      some ⟨0xBB, 1, [0, 8, 2, 0xC0, 0, 0, 0]⟩ := by decide +kernel
/-- R210: RESETn holds the part; its release begins the load. -/
theorem test_reset : (after (.resetnAssert .programming) ready).phase = .held ∧
    (after .resetnRelease State.reset).phase = .loading := by decide +kernel

/-! ### Witnesses: the link -/

/-- The link with the receiver in a state. -/
def receiving (rx : RxState) : State := ready.modLnk fun l => { l with rx := rx, gapTimer := some 1 }

/-- The reply slot SENDING with n frames waiting. -/
def waiting (n : Nat) : State :=
  ready.modLnk fun l => { l with slot := .sending, inbound := List.replicate n ⟨0x10, 0, []⟩ }

theorem witness_StepRunsFrontCommand : State.reset.pending = [] := by decide
theorem witness_FramesSpellMessages :
    (Instr.keyDown 0 60 100).wellFormed = true ∧ frameOf (.keyDown 0 60 100) = some ⟨1, 0, [0, 60, 100]⟩ ∧
    (Instr.unknownKindFrame 6 1 (List.replicate 32 0)).wellFormed = true ∧
    frameMeaning ⟨1, 9, [0, 60, 100]⟩ = .message (.keyDown 0 60 100) ∧
    frameMeaning ⟨0x10, 9, []⟩ = .message (.identify 9) := by decide
theorem witness_BytesDeliverTheFrame :
    linkAwake ready = true ∧ ready.lnk.rx = .hunt ∧ ready.lnk.gapTimer = none ∧ arbitrate ready = ready ∧
    (List.replicate 32 (0 : Byte)).length ≤ 32 ∧ frameOf (.identify 1) = some ⟨0x10, 1, []⟩ :=
  ⟨rfl, rfl, rfl, rfl, by decide, rfl⟩
theorem witness_ReceiverFollowsItsTable :
    linkAwake ready = true ∧ ready.lnk.rx = .hunt ∧ (receiving .len).lnk.rx = .len ∧
    (receiving (.kind 32)).lnk.rx = .kind 32 ∧ (receiving (.tag 0 1)).lnk.rx = .tag 0 1 ∧
    (receiving (.payload 1 1 0 [])).lnk.rx = .payload 1 1 0 [] ∧
    (receiving (.check 1 1 0 [5])).lnk.rx = .check 1 1 0 [5] ∧ linkAwake (receiving .len) = true ∧
    (32 : Byte).toNat ≤ 32 ∧ ¬ (33 : Byte).toNat ≤ 32 ∧ (0xD3 : Byte) ≠ 0xD2 := by decide
theorem witness_LineErrorsEndTheFrame :
    linkAwake (receiving .len) = true ∧ (receiving .len).lnk.gapTimer.isSome = true ∧ ready.lnk.gapTimer = none ∧
    linkAwake State.reset = false ∧ frameOf (.identify 1) = some ⟨0x10, 1, []⟩ := by decide
theorem witness_MessagesWaitForTheReply :
    frameOf (.keyUp 0 1) = some ⟨2, 0, [0, 1]⟩ ∧ linkAwake (waiting 7) = true ∧ (waiting 7).lnk.slot ≠ .empty ∧
    (waiting 7).lnk.inbound.length < 8 ∧ (waiting 8).lnk.inbound.length = 8 ∧ linkAwake (waiting 8) = true := by decide
theorem witness_DecoderRefusals :
    Listening loading ∧ loading.phase = .loading ∧ (Instr.unknownKindFrame 0x80 1 []).wellFormed = true ∧
    (Instr.unknownKindFrame 0x7F 1 []).wellFormed = true ∧ isUnknownKind 0x80 = true ∧ isUnknownKind 0x7F = true ∧
    isPerformanceKind 5 = true ∧ isPerformanceKind 0x11 = false ∧ isUnknownKind 0x11 = false ∧ (0x11 : Byte) ≠ 0x10 ∧
    Listening ready ∧ (Instr.keyUp 0 60).wellFormed = true ∧ frameOf (.keyUp 0 60) = some ⟨2, 0, [0, 60]⟩ ∧
    isUnknownKind 2 = false ∧ (⟨2, 0, [0, 60, 1]⟩ : Frame).payload.length ≠ ([0, 60] : List Byte).length ∧
    frameOf (.identify 1) = some ⟨0x10, 1, []⟩ ∧ isPerformanceKind 0x10 = false ∧ isUnknownKind 0x10 = false ∧
    (⟨0x10, 1, [0]⟩ : Frame).payload.length ≠ ([] : List Byte).length ∧ ready.phase = .running := by decide
theorem witness_FaultFlagsSetOnce :
    (withNotices 23 ready).stu.flags[fReadback].isSet = false ∧ (withNotices 23 ready).lnk.notices.length < 24 ∧
    (setFault fReadback ready).stu.flags[fReadback].isSet = true := by decide +kernel
theorem witness_CountersStepByOne :
    (withCounter 0 49150 ready).stu.counters[(0 : CounterId)] ≠ 49151 ∧
    (withCounter 0 65535 ready).stu.counters[(0 : CounterId)] ≠ 49151 ∧
    (withCounter 0 49151 ready).stu.counters[(0 : CounterId)] = 49151 := by decide +kernel
theorem witness_NoticesAreNumberedOrLost :
    disabled { ready.stu with noticeMask := 4 } (.partSilent 0) = true ∧ disabled ready.stu (.partSilent 0) = false ∧
    (withNotices 23 ready).lnk.notices.length < 24 ∧ 24 ≤ (withNotices 24 ready).lnk.notices.length ∧
    disabled (withNotices 24 ready).stu (.partSilent 0) = false := by decide
theorem witness_ArbiterOrder :
    (sending ready).lnk.tx ≠ none ∧ ready.lnk.tx = none ∧
    (asked 1 2 ready).lnk.slot = .pending 1 2 ∧ (withNotices 1 ready).lnk.notices = [(0, .ready)] ∧
    (ready.modLnk fun l => { l with slot := .full ⟨0x90, 1, [0]⟩ }).lnk.slot = .full ⟨0x90, 1, [0]⟩ ∧
    (ready.modLnk fun l => { l with reports := [⟨0, 5, .locked, true⟩] }).lnk.reports = [⟨0, 5, .locked, true⟩] ∧
    (ready.modLnk fun l => { l with reports := [⟨0, 5, .locked, true⟩] }).lnk.notices = [] ∧
    ready.lnk.slot = .empty ∧ ready.lnk.reports = [] := by decide
theorem witness_FrameSentFreesItsSource :
    ready.lnk.tx = none ∧ (sending ready).lnk.tx = some (.notice 0 .ready) ∧
    ¬ ((0x91 : Byte) = 0x91 ∧ ([6] : List Byte) = [0]) ∧ ready.lnk.inbound = [] ∧
    (ready.modLnk fun l => { l with tx := some (.reply ⟨0x91, 1, [6]⟩) }).lnk.tx = some (.reply ⟨0x91, 1, [6]⟩) := by
  decide
theorem witness_serve :
    (let s := ready.modLnk fun l => { l with inbound := [⟨2, 0, [0, 60]⟩, ⟨0x10, 1, []⟩] }
     s.lnk.slot = .empty ∧ s.lnk.inbound = ⟨2, 0, [0, 60]⟩ :: [⟨0x10, 1, []⟩] ∧ s.phase = .running) ∧
    (waiting 1).lnk.slot ≠ .empty ∧ Listening ready ∧ isPerformanceKind 2 = true ∧ isPerformanceKind 0x10 = false ∧
    frameMeaning ⟨2, 0, [0, 60]⟩ = .message (.keyUp 0 60) := by decide
/-- The write engine busy with a STORE of part 0 to slot 5. -/
def storing : State :=
  modEngine (fun e => { e with operation := some .store, target := .slot 5, image := [erasedPage], snapshot := some (0, 3) })
    ready
theorem witness_IdentifyAndRestartAct :
    Listening loading ∧ Listening ready ∧ Ready ready ∧
    (ready.modLnk fun l => { l with tx := some (.reply ⟨0x91, 1, [0]⟩) }).lnk.tx = some (.reply ⟨0x91, 1, [0]⟩) ∧
    ready.pmc.engine.operation = none ∧ storing.pmc.engine.operation ≠ none := by decide
/-- A background pass over one voice. -/
def passing (v : VoiceId) : State := ready.modTun fun t => { t with passList := [v] }
/-- A tune job. -/
def tuning : State := ready.modTun fun t => { t with job := some ⟨7, []⟩ }
theorem witness_SetGlobalClampsAndStores :
    Ready ready ∧ Ready tuning ∧ tuning.tun.job.isSome = true ∧ Ready (passing 3) ∧ (passing 3).tun.job = none ∧
    (passing 3).tun.passList ≠ [] ∧ ready.tun.job = none ∧ ready.tun.passList = [] ∧ min (0 : BitVec 16).toNat 60 = 0 ∧
    min (1 : BitVec 16).toNat 60 ≠ 0 ∧ 6 < (7 : Byte).toNat ∧ (6 : Byte) = 6 := by decide
theorem witness_GetGlobalReports : Ready ready ∧ 6 < (7 : Byte).toNat ∧ (0 : Byte) = 0 ∧ (6 : Byte) = 6 := by decide

/-! ### Witnesses: voices, parts and notes -/

theorem witness_SetRouteStoresTheRoute :
    Ready ready ∧ (3 : Byte) = byte (3 : PartId) ∧ (0xFF : Byte) = channelByte none ∧
    (15 : Byte) = channelByte (some 15) ∧ 3 < (4 : Byte).toNat ∧ 15 < (16 : Byte).toNat ∧ (16 : Byte) ≠ 0xFF := by decide
/-- Voice 0 TUNING. -/
def voiceTuning : State := enterTuning 0 ready
theorem witness_SetPoolMovesVoices :
    Ready ready ∧ NoPass ready ∧
    (∀ v : VoiceId, ((Vector.replicate 16 3).set 0 0xFF : Vector Byte 16)[v].toNat ≤ 3 ∨
      ((Vector.replicate 16 3).set 0 0xFF : Vector Byte 16)[v] = 0xFF) ∧
    (¬ ∀ v : VoiceId, (Vector.replicate 16 4 : Vector Byte 16)[v].toNat ≤ 3 ∨
      (Vector.replicate 16 4 : Vector Byte 16)[v] = 0xFF) ∧
    (¬ ∃ v : VoiceId, ((Vector.replicate 16 3).set 0 0xFF : Vector Byte 16)[v] ≠ partByte (ready.voice v).part ∧
      (ready.voice v).state = .tuning) ∧
    Ready voiceTuning ∧ (Vector.replicate 16 1 : Vector Byte 16)[(0 : VoiceId)] ≠ partByte (voiceTuning.voice 0).part ∧
    (voiceTuning.voice 0).state = .tuning ∧
    (∀ p : PartId, (ready.part p).active.Nodup ∧ ∀ r ∈ (ready.part p).start, r.members.Nodup) := by decide +kernel
theorem witness_SetVoiceEnableActs :
    Ready ready ∧ NoPass ready ∧ 15 < (16 : Byte).toNat ∧ 1 < (2 : Byte).toNat ∧ (15 : Byte) = byte (15 : VoiceId) ∧
    (ready.voice 15).state ≠ .tuning ∧ (ready.voice 15).state ≠ .disabled ∧ (voiceTuning.voice 0).state = .tuning ∧
    Ready (becomeDisabled 3 ready) ∧ ((becomeDisabled 3 ready).voice 3).state = .disabled ∧
    NoPass (becomeDisabled 3 ready) := by decide +kernel
/-- Voices 0 and 1 active, one GATED and one of the state given. -/
def two (x : Voice) : State := withActive 1 x (withActive 0 gated ready)
/-- The start record of part 0. -/
def starting (r : StartRecord) (s : State) : State := s.modPart 0 fun y => { y with start := some r }
theorem witness_named_once : NamedOnce ready ∧ NamedOnce (two quenching) ∧ ((two quenching).voice 1).state ≠ .tuning ∧
    (let s := starting ⟨[0, 1], 2, 60, 9⟩ (two quenching)
     NamedOnce s ∧ (s.part 0).start = some ⟨[0, 1], 2, 60, 9⟩ ∧ (0 : VoiceId) ∈ [0, 1]) := by decide +kernel
theorem witness_QueriesReport :
    Ready ready ∧ 15 < (16 : Byte).toNat ∧ (15 : Byte) = byte (15 : VoiceId) ∧ 3 < (4 : Byte).toNat ∧
    2 < (3 : Byte).toNat ∧ (3 : Byte) = byte (3 : PartId) ∧ (2 : Byte) = 2 := by decide
theorem witness_KeysComplete :
    Ready ready ∧ (127 : Byte) = byte (127 : Note) ∧ 127 < (128 : Byte).toNat ∧ (1 : Byte) ≠ 0 ∧ NoPass ready ∧
    ready.tun.background = none ∧ ListsFollowVoices ready := by decide +kernel
theorem witness_PolyKeyTakesTheFreeVoice :
    Ready ready ∧ NoPass ready ∧ (1 : Byte) ≠ 0 ∧
    (∀ q : PartId, ((ready.part q).channel.map (·.val) = some (0 : Byte).toNat ∧ (ready.part q).lowKey ≤ (60 : Note) ∧
      (60 : Note) ≤ (ready.part q).highKey) ↔ q = 0) ∧
    ready.param 0 pVoiceMode = 0 ∧ (∀ w ∈ (ready.part 0).active, Voice.heldNote (ready.voice w) ≠ some 60) ∧
    (ready.part 0).free.head? = some 0 ∧ (ready.voice 0).state = .idle ∧
    (∀ w ∈ (ready.part 0).free, ¬ ((ready.voice w).state = .released ∧ (ready.voice w).lastPlayed = some 60)) := by
  decide +kernel
/-- Voice 0 active, with no free voice in part 0. -/
def alone (x : Voice) : State := (withActive 0 x ready).modPart 0 fun y => { y with free := [] }
/-- The pedal of part 0 down. -/
def pedalled (s : State) : State := s.modPart 0 fun y => { y with pedal := true }
theorem witness_reaches : ∀ q : PartId, Reaches ready 0 60 q ↔ q = 0 := by decide +kernel
theorem witness_poly_sounding :
    (let s := two quenching
     Ready s ∧ NoPass s ∧ (∀ q : PartId, Reaches s 0 60 q ↔ q = 0) ∧ s.param 0 pVoiceMode = 0 ∧
      (0 : VoiceId) ∈ (s.part 0).active ∧ (∀ u ∈ (s.part 0).active, (s.voice u).heldNote = some 60 → u = 0) ∧
      Sounds (s.voice 0) ∧ (s.voice 0).sound.map (·.1) = some 60 ∧ s.param 0 pSameNote = 1 ∧
      (withParam pSameNote 0 s).param 0 pSameNote ≠ 1 ∧ (s.voice 0).keyHeld = true ∧ (s.part 0).pedal = false ∧
      ((pedalled s).part 0).pedal = true ∧ (∀ u ∈ (s.part 0).active, (s.voice u).heldNote ≠ some 61) ∧
      choice s 0 61 = some 2) := by decide +kernel
theorem witness_poly_others :
    (alone { gated with keyHeld := false, sustained := true } |>.voice 0).keyHeld = false ∧
    (let s := alone { quenching with pendingNote := some ⟨60, 1, false⟩ }
     (s.voice 0).state = .quenching ∧ (s.voice 0).pendingNote = some ⟨60, 1, false⟩ ∧
      (∀ u ∈ (s.part 0).active, (s.voice u).heldNote = some 60 → u = 0)) ∧
    (let s := withParam pStealRule 2 (alone gated)
     (s.part 0).free = [] ∧ NoYield s 0 ∧ stealVictim s 0 = none ∧
      (∀ u ∈ (s.part 0).active, (s.voice u).heldNote ≠ some 61)) := by decide +kernel
theorem witness_StealVictimFollowsTiers :
    stealVictim (two quenching) 0 = some 1 ∧ stealVictim (withParam pStealRule 1 (two { gated with sound := some (62, 9) })) 0 =
      some 1 ∧ (withParam pStealRule 1 ready).param 0 pStealRule = 1 ∧ stealVictim ready 0 = none := by decide +kernel
theorem witness_StealEffect :
    (1 : VoiceId) ∈ ((two quenching).part 0).active ∧ stealTier ((two quenching).voice 1) = 0 ∧
    stealTier ((two gated).voice 1) = 2 ∧ stealTier ((two { gated with sustained := true }).voice 1) = 1 ∧
    stealTier ((two { quenching with pendingNote := some ⟨60, 1, false⟩ }).voice 1) = 3 ∧
    (1 : VoiceId) ∈ ((two gated).part 0).active ∧
    (let s := alone gated
     Ready s ∧ NoPass s ∧ (∀ q : PartId, Reaches s 0 61 q ↔ q = 0) ∧ s.param 0 pVoiceMode = 0 ∧
      (∀ u ∈ (s.part 0).active, (s.voice u).heldNote ≠ some 61) ∧ (s.part 0).free = [] ∧ NoYield s 0 ∧
      stealVictim s 0 = some 0) := by decide +kernel
theorem witness_PriorityNoteFollowsTheRule : ([60, 48] : List Note) ≠ [] := by decide
/-- Part 0 in a mode, with a held list. -/
def playing (mode : Nat) (held : List Note) (s : State) : State :=
  (withParam pVoiceMode mode s).modPart 0 fun y => { y with held := held }
theorem witness_held_empties :
    (let s := playing 1 [60] (alone gated)
     Ready s ∧ NoPass s ∧ (∀ q : PartId, Reaches s 0 60 q ↔ q = 0) ∧ s.param 0 pVoiceMode ≠ 0 ∧ (s.part 0).held ≠ [] ∧
      (s.part 0).start = none ∧ ((keyed 0 60 false s).part 0).held = []) ∧
    (let s := starting ⟨[0], 1, 60, 9⟩ (playing 2 [60] (alone quenching))
     (s.part 0).start = some ⟨[0], 1, 60, 9⟩ ∧ ([0] : List VoiceId).Nodup ∧ ((keyed 0 60 false s).part 0).held = []) ∧
    ((keyed 0 60 false (playing 1 [] ready)).part 0).held = [] := by decide +kernel
theorem witness_mono :
    (let s := playing 1 [60] (alone gated)
     priorityNote (s.param 0 pNotePriority) ((keyed 0 61 true s).part 0).held = some 61 ∧ s.param 0 pVoiceMode ≠ 2 ∧
      (s.part 0).active.head? = some 0) ∧
    (let s := playing 1 [60, 61] ready
     (s.part 0).active = [] ∧ choice s 0 60 = some 0 ∧
      priorityNote (s.param 0 pNotePriority) ((keyed 0 60 false s).part 0).held = some 61 ∧
      priorityNote (s.param 0 pNotePriority) (s.part 0).held = some 61 ∧
      priorityNote (s.param 0 pNotePriority) ((keyed 0 61 false s).part 0).held = some 60) ∧
    (let s := playing 1 [60, 61] (ready.modPart 0 fun y => { y with free := [] })
     (s.part 0).active = [] ∧ (s.part 0).free = [] ∧ NoYield s 0) := by decide +kernel
theorem witness_unison :
    (let s := starting ⟨[0], 1, 60, 9⟩ (playing 2 [60] (alone quenching))
     s.param 0 pVoiceMode = 2 ∧ (s.part 0).start = some ⟨[0], 1, 60, 9⟩ ∧ (60 : Note) ≠ 61 ∧
      priorityNote (s.param 0 pNotePriority) ((keyed 0 61 true s).part 0).held = some 61 ∧
      ∀ v ∈ (s.part 0).active, ¬ Sounds (s.voice v) ∧ (s.voice v).pendingNote = none) ∧
    (let s := playing 2 [60] (alone gated)
     (s.part 0).start = none ∧ ∃ v ∈ (s.part 0).active, Sounds (s.voice v) ∨ (s.voice v).state = .waiting) ∧
    (let s := playing 2 [] (two quenching |>.modVoice 0 fun _ => quenching)
     (s.part 0).active ≠ [] ∧ (s.part 0).active.Nodup ∧
      ∀ v ∈ (s.part 0).active, (s.voice v).state = .quenching ∧ (s.voice v).pendingNote = none) ∧
    (let s := withParam pUnisonCount 16 (playing 2 [] ready)
     (s.part 0).active = [] ∧ (s.part 0).free.take (s.param 0 pUnisonCount) = allVoices ∧ allVoices.Nodup ∧
      allVoices ≠ [] ∧ ¬ s.vas.tailQuench = 1) ∧
    (let s := playing 2 [] ((becomeReleased 0 0 ready).modVas fun a => { a with tailQuench := 1 })
     (((s.part 0).free.take (s.param 0 pUnisonCount)).filter fun v => (s.voice v).state = .released).length ≠ 0 ∧
      s.vas.tailQuench = 1) := by decide +kernel
theorem witness_BendStoresClamped : Ready ready := by decide
theorem witness_PedalMarksAndReleases :
    Ready ready ∧ NoPass ready ∧ (1 : Byte) ≠ 0 ∧ (ready.part 0).pedal = false ∧
    (let s := (two { gated with keyHeld := false, sustained := true }).modPart 0 fun x => { x with pedal := true }
     Ready s ∧ (s.part 0).channel.map (·.val) = some (0 : Byte).toNat ∧ (s.part 0).pedal = true ∧
      s.param 0 pVoiceMode = 0 ∧ (1 : VoiceId) ∈ (s.part 0).active ∧ (s.voice 1).state = .gated ∧
      (s.voice 1).sustained = true ∧ NoPass s ∧
      (∀ q : PartId, (s.part q).channel.map (·.val) = some (0 : Byte).toNat ↔ q = 0)) ∧ ListsFollowVoices ready ∧
    (let s := pedalled (starting ⟨[0], 1, 60, 9⟩ (playing 2 [] (alone quenching)))
     ¬ s.param 0 pVoiceMode = 0 ∧ (s.part 0).held = [] ∧ (s.part 0).start = some ⟨[0], 1, 60, 9⟩ ∧
      ([0] : List VoiceId).Nodup) ∧
    (pedalled (playing 1 [60] ready) |>.part 0).held ≠ [] ∧ (pedalled (playing 1 [] ready) |>.part 0).start = none := by
  decide +kernel
theorem witness_SilenceClearsParts :
    Ready ready ∧ NoPass ready ∧ 1 < (2 : Byte).toNat ∧ (1 : Byte).toNat ≤ 1 ∧ (1 : Byte).getLsbD (0 : PartId).val = true ∧
    (1 : Byte).getLsbD (3 : PartId).val = false ∧ ListsFollowVoices ready := by decide +kernel
theorem witness_silence_timers :
    ListsFollowVoices (two quenching) ∧ Ready (two quenching) ∧ NoPass (two quenching) ∧
    (1 : VoiceId) ∈ ((two quenching).part 0).active ∧ ((two quenching).voice 1).state = .quenching ∧
    ((two quenching).voice 0).state ≠ .quenching := by decide +kernel
theorem witness_VoiceTimersExpire :
    ((becomeReleased 0 0 ready).voice 0).releaseHold ≠ none ∧ ((two { gated with state := .retrigger, gap := some 2 }).voice
      1).gap ≠ none ∧ ((two quenching).voice 1).quench ≠ none ∧ ((two quenching).voice 1).part = some 0 ∧
    ((two quenching).voice 1).pendingNote = none ∧ ((two quenching).part 0).start = none ∧
    (let s := two { quenching with pendingNote := some ⟨62, 9, false⟩ }
     (s.voice 1).pendingNote = some ⟨62, 9, false⟩ ∧ (1 : VoiceId) ∉ (s.part 0).free ∧ (s.voice 1).quench ≠ none) ∧
    (let s := (two quenching).modPart 0 fun x => { x with start := some ⟨[1, 2], 2, 62, 9⟩ }
     (s.voice 1).pendingNote = none ∧ (s.part 0).start = some ⟨[1, 2], 2, 62, 9⟩ ∧ (1 : VoiceId) ∈ [1, 2] ∧ 2 ≤ 2 ∧
      (s.voice 1).quench ≠ none) ∧
    (let s := starting ⟨[1], 1, 62, 9⟩ (two quenching)
     (s.voice 1).pendingNote = none ∧ (s.part 0).start = some ⟨[1], 1, 62, 9⟩ ∧ (1 : VoiceId) ∈ [1] ∧ 1 ≤ 1 ∧
      (∀ w ∈ ([1] : List VoiceId), w ∉ (s.part 0).free) ∧ (s.voice 1).quench ≠ none) ∧
    (let s := starting ⟨[0], 1, 62, 9⟩ (two quenching)
     ∀ r ∈ (s.part 0).start, (1 : VoiceId) ∉ r.members) ∧
    (ready.voice 0).releaseHold = none ∧ (ready.voice 0).quench = none ∧ (ready.voice 0).gap = none := by decide +kernel

/-! ### Witnesses: CV output and tuning -/

/-- A refresh pass at an output. -/
def visiting (j : OutputId) (s : State) : State := s.modCvo fun c => { c with passTimer := some 1, position := some j }

theorem witness_OutputVisitLatchesTheCode :
    ready.cvo.passTimer = none ∧ (visiting 0 ready).cvo.passTimer ≠ none ∧ ready.cvo.position = none ∧
    (visiting 135 ready).cvo.position = some 135 ∧ 128 ≤ (128 : OutputId).val ∧ 2 ≤ (127 : OutputId).val % 8 ∧
    (2 : OutputId).val = 8 * (0 : VoiceId).val + 2 ∧ (127 : OutputId).val = 8 * (15 : VoiceId).val + 7 ∧
    (135 : OutputId).val = 129 + 2 * (3 : PartId).val := by decide
theorem witness_PitchIsCorrectedByItsTable :
    6144 * ((10 : Fin 11).val : Int) ≤ 65535 ∧ (65535 : Int) ≤ 6144 * ((10 : Fin 11).val + 1 : Int) ∧ (0 : Int) ≤ 65535 ∧
    6144 * ((3 : Fin 11).val : Int) ≤ 24576 ∧ (24576 : Int) ≤ 6144 * ((3 : Fin 11).val + 1 : Int) ∧ (-1 : Int) < 0 ∧
    (65535 : Int) < 65536 := by decide
theorem witness_PitchOutputsCarryTheirCodes :
    (visiting 6 ready).cvo.position = some 6 ∧ (120 : OutputId).val = 8 * (15 : VoiceId).val + false.toNat ∧
    (25 : OutputId).val = 8 * (3 : VoiceId).val + true.toNat ∧
    (let s := visiting 24 (withChannel counting (enterTuning 3 ready))
     (s.voice 3).state = .tuning ∧ s.tun.channels[(0 : MeasId)].osc = some (oscA 3) ∧
      (∀ d : MeasId, s.tun.channels[d].osc = some (oscA 3) → d = 0)) ∧
    (ready.voice 3).state ≠ .tuning ∧ (∀ c : MeasId, ready.tun.channels[c].osc ≠ some (oscA 3)) ∧
    ready.stu.counters[cPitchClamps] < 49151 ∧ (4 : VoiceId) ≠ 3 := by decide +kernel
theorem witness_GlideFollowsItsMode :
    ready.cvo.glide[(0 : VoiceId)] = none ∧ (setGlide 0 (some 24576) none ready).cvo.glide[(0 : VoiceId)] = some 24576 ∧
    ready.param 0 pGlideMode = 0 ∧
    (let s := withParam pGlideMode 2 (withParam pGlideAmount 1 ready)
     ¬ (s.param 0 pGlideMode = 0 ∨ s.param 0 pGlideAmount = 0) ∧ s.param 0 pGlideMode = 2) ∧
    (let s := withParam pGlideMode 1 (withParam pGlideAmount 1023 ready)
     ¬ (s.param 0 pGlideMode = 0 ∨ s.param 0 pGlideAmount = 0) ∧ s.param 0 pGlideMode ≠ 2) ∧ 0 < 1 := by decide +kernel
theorem witness_ChannelsSearchTheCorrections :
    let held := fun x : Channel => (withChannel x ready).tun.channels[(0 : MeasId)]
    let step := fun m : Nat => roundDiv (((m : Int) - 244624) * 8864) 244624
    (held Channel.reset).settleTimer = none ∧ (held { counting with settleTimer := some 10 }).settleTimer ≠ none ∧
    (∀ d : MeasId, ready.tun.channels[d].osc ≠ some 6) ∧ (held counting).osc = some 6 ∧
    (∀ d : MeasId, (withChannel counting ready).tun.channels[d].osc = some 6 → d = 0) ∧
    (held { counting with state := .settle }).state = .settle ∧ (held { counting with state := .arm }).state = .arm ∧
    (held counting).state = .count ∧ 6 + 1 < 2 ^ (counting.breakpoint - 1) ∧
    2 ^ (counting.breakpoint - 1) ≤ counting.edges + 1 ∧ min 1600000 (0 + 183467) < 183468 ∧
    326165 < min 1600000 (0 + 326166) ∧ 183468 ≤ min 1600000 (0 + 183468) ∧ min 1600000 (0 + 326165) ≤ 326165 ∧
    step 246041 ≠ 0 ∧ step 244624 = 0 ∧ (held { counting with measurements := 7 }).measurements = 7 ∧
    (InCorrectionRange ((24576 : Int) + step 246041 - 6144 * 4)) ∧
    ¬ InCorrectionRange ((24576 + 4095 : Int) + step 246041 - 6144 * 4) ∧
    (8 : Nat) = (7 : Fin 9).val + 1 ∧ (7 : Fin 9).val < 8 ∧
    (let x : Channel := { counting with breakpoint := 9, candidates := Vector.replicate 9 (some 5) }
     x.breakpoint = 9 ∧ ∀ i : Fin 8, x.candidates[i] = some 5) := by decide +kernel
/-- Voice 3 in a tune job with oscillator A's verdict given. -/
def halfTuned (a : OscResult) (wasDisabled : Bool) : State :=
  ready.modTun fun t => { t with job := some ⟨7, [⟨3, .measuring, some 0, wasDisabled, some a, none⟩]⟩ }
/-- A job of four voices, two of them measured. -/
def fourTuned : State :=
  (allVoices.filter fun v => v.val < 4).foldl (fun s v => enterTuning v s) (ready.modTun fun t =>
    { t with job := some ⟨7, [⟨0, .measuring, some 0, false, none, none⟩, ⟨1, .measuring, some 1, false, none, some .ok⟩,
      ⟨2, .queued, none, false, none, none⟩, ⟨3, .queued, none, true, none, none⟩]⟩ })
theorem witness_entries :
    (let j : List JobEntry := [⟨0, .measuring, some 0, false, none, none⟩, ⟨1, .measuring, some 1, false, none, some .ok⟩,
      ⟨2, .queued, none, false, none, none⟩, ⟨3, .queued, none, true, none, none⟩]
     let others := j.filter fun x => x.voice ≠ 1
     fourTuned.tun.job = some ⟨7, j⟩ ∧ entryOf fourTuned 1 = some ⟨1, .measuring, some 1, false, none, some .ok⟩ ∧
      (∃ x ∈ others, x.status ≠ .done) ∧ (j.map (·.voice)).Nodup ∧
      (others.find? fun x => decide (x.status = .queued)) = some ⟨2, .queued, none, false, none, none⟩ ∧
      (∀ x ∈ others, x.status = .measuring → x.pair ≠ some 1) ∧
      (∀ m : Fin 2, m ≠ 1 → ∃ x ∈ others, x.status = .measuring ∧ x.pair = some m)) ∧
    (fourTuned.voice 1).state = .tuning ∧ fourTuned.tun.background ≠ some 1 ∧
    ((takeBackground 3 (passing 3)).voice 3).state = .tuning ∧ (takeBackground 3 (passing 3)).tun.background = some 3 ∧
    (voiceTuning.voice 0).state = .tuning ∧ (∀ e ∈ entryOf voiceTuning 0, e.status = .done) ∧
    (halfTuned .ok true).tun.job = some ⟨7, [⟨3, .measuring, some 0, true, some .ok, none⟩]⟩ ∧
    (∀ x ∈ ([⟨3, .measuring, some 0, true, some .ok, none⟩] : List JobEntry).filter fun x => x.voice ≠ 3,
      x.status = .done) := by decide +kernel
theorem witness_VerdictsEndAVoice :
    (withChannel counting ready).tun.channels[(0 : MeasId)].countTimer ≠ none ∧
    (withChannel counting ready).tun.channels[(0 : MeasId)].osc ≠ none ∧
    (ready.modTun fun t => { t with background := some 3, backgroundA := some .ok }).tun.background = some 3 ∧
    (ready.modTun fun t => { t with background := some 3, backgroundA := some .ok }).tun.backgroundA = some .ok ∧
    (halfTuned .ok true).tun.background ≠ some 3 ∧
    entryOf (halfTuned .ok true) 3 = some ⟨3, .measuring, some 0, true, some .ok, none⟩ := by decide +kernel
theorem witness_TuneStartTakesTheListedVoices :
    Ready ready ∧ Ready tuning ∧ (0x8001 : BitVec 16) ≠ 0 ∧ tuning.tun.job ≠ none ∧ ready.tun.job = none ∧
    ready.tun.background = none ∧ (passing 3).tun.passList ≠ [] ∧
    (allVoices.filter fun v => (0x8001 : BitVec 16).getLsbD v.val) = [0, 15] := by decide +kernel
theorem witness_TuneAbortHandsTheVoicesBack :
    Ready ready ∧ ready.tun.job = none ∧ ready.tun.passList = [] ∧ Ready (halfTuned .ok false) ∧
    ¬ ((halfTuned .ok false).tun.job = none ∧ (halfTuned .ok false).tun.passList = []) ∧
    ((halfTuned .ok false).voice 0).state ≠ .tuning ∧ ((enterTuning 3 (halfTuned .ok false)).voice 3).state = .tuning ∧
    (enterTuning 3 (halfTuned .ok false)).tun.background ≠ some 3 ∧
    (let s := takeBackground 3 (passing 3)
     Ready s ∧ s.tun.passList ≠ [] ∧ s.tun.background = some 3 ∧ (s.voice 3).state = .tuning) := by decide +kernel
theorem witness_TuningTablesAreReadAndZeroed :
    Ready ready ∧ 31 < (32 : Byte).toNat ∧ (31 : Byte) = byte (31 : OscId) ∧ Ready voiceTuning ∧
    ((2 : BitVec 32).getLsbD (1 : OscId).val = true ∧ (voiceTuning.voice (voiceOfOsc 1)).state = .tuning) ∧
    (¬ ∃ o : OscId, (0xFFFFFFFF : BitVec 32).getLsbD o.val = true ∧ (ready.voice (voiceOfOsc o)).state = .tuning) := by
  decide +kernel
/-- The interval timer running. -/
def interval (s : State) : State := s.modTun fun t => { t with interval := 1, intervalTimer := some 60000 }
theorem witness_BackgroundPassBegins :
    ready.tun.intervalTimer = none ∧ (interval ready).tun.intervalTimer ≠ none ∧ (interval ready).tun.background = none ∧
    ((interval ready).tun.ageList.filter fun v => ((interval ready).voice v).state ≠ .disabled) =
      [] ++ 0 :: [1, 2, 3, 4, 5, 6, 7, 8, 9, 10, 11, 12, 13, 14, 15] ∧ ((interval ready).voice 0).state = .idle ∧
    (let s := interval { ready with vas := { ready.vas with voices := Vector.replicate 16 gated } }
     (s.tun.ageList.filter fun v => (s.voice v).state ≠ .disabled) ≠ [] ∧ ∀ v : VoiceId, (s.voice v).state ≠ .idle) ∧
    (let s := interval { ready with vas := { ready.vas with voices := Vector.replicate 16 { gated with state := .disabled } } }
     (s.tun.ageList.filter fun v => (s.voice v).state ≠ .disabled) = []) := by decide +kernel
theorem witness_settles :
    NoPass ready ∧ ¬ NoPass (passing 3) ∧ (passing 3).tun.background = none ∧ (passing 3).tun.passList = [] ++ 3 :: [] ∧
    ((passing 3).voice 3).state = .idle ∧ (takeBackground 3 (passing 3)).tun.background ≠ none ∧
    ¬ NoPass (takeBackground 3 (passing 3)) ∧
    (∀ v ∈ ((passing 3).modVoice 3 fun _ => gated).tun.passList,
      (((passing 3).modVoice 3 fun _ => gated).voice v).state ≠ .idle) := by decide +kernel
/-- Voice 3 measured by a background pass over it alone, with no other voice free. -/
def yielding : State := (takeBackground 3 (passing 3)).modPart 0 fun y => { y with free := [] }
theorem witness_yield :
    Ready yielding ∧ (∀ q : PartId, Reaches yielding 0 60 q ↔ q = 0) ∧ (yielding.part 0).free = [] ∧
    yielding.tun.background = some 3 ∧ (yielding.voice 3).part = some 0 ∧
    (∀ w ∈ yielding.tun.passList, w ≠ 3 → (yielding.voice w).state ≠ .idle) ∧ yielding.param 0 pVoiceMode = 0 ∧
    (∀ w ∈ (yielding.part 0).active, (yielding.voice w).heldNote ≠ some 60) ∧ ready.tun.background = none ∧
    (let s := playing 2 [] yielding
     s.param 0 pVoiceMode ≠ 0 ∧ (s.part 0).active = [] ∧ (s.part 0).start = none ∧
      priorityNote (s.param 0 pNotePriority) ((keyed 0 60 true s).part 0).held = some 60) ∧
    (let s := playing 1 [60, 61] yielding
     priorityNote (s.param 0 pNotePriority) ((keyed 0 61 false s).part 0).held = some 60 ∧
      priorityNote (s.param 0 pNotePriority) (s.part 0).held ≠ some 60) := by decide +kernel

/-! ### Witnesses: panel, parameters and controls -/

/-- A scan pass at a step. -/
def scanning (x : PassPosition) (s : State) : State := s.modPns fun p => { p with scanTimer := some 4, position := x }

theorem witness_ScanPassTakesItsSteps :
    ready.pns.scanTimer = none ∧ (scanning .switches ready).pns.scanTimer ≠ none ∧
    (scanning .switches ready).pns.position = .switches ∧ ready.pns.position ≠ .switches ∧
    ready.stu.noticeMask.getLsbD 1 = false ∧ ready.lnk.notices.length + 0 ≤ 24 ∧
    (scanning (.control 95) ready).pns.position = .control 95 ∧ (∀ c : ControlId, ready.pns.position ≠ .control c) := by
  decide +kernel
/-- A pass at REF_HIGH with the low reading given. -/
def judging (reading : Nat) (tested : Bool) : State :=
  scanning .refHigh (ready.modPns fun x => { x with refLow := ⟨1, reading, tested⟩ })
theorem witness_ReferencesHoldOrApplyThePass :
    ready.pns.position ≠ .refLow ∧ ready.pns.position ≠ .refHigh ∧ (scanning .refLow ready).pns.position = .refLow ∧
    (judging 960 false).pns.position = .refHigh ∧ 1024 - 64 ≤ (judging 960 false).pns.refLow.reading ∧
    ¬ 1024 - 64 ≤ (judging 959 false).pns.refLow.reading ∧ (judging 0 true).pns.refLow.tested = true ∧
    (judging 0 true).stu.flags[fRefLow].isSet = false := by decide +kernel
/-- The two ways an applied pass meets the link: it goes on, and a reset stops it. -/
theorem witness_meeting :
    (judging 960 false).pns.position = .refHigh ∧
    (let t := after (.byteReceived 0 |> momentCommand) (scanning .judge ready)
     t.pns.position = .judge) ∧
    (let t := after (momentCommand .frameSent)
      (scanning .judge (ready.modLnk fun l => { l with tx := some (.reply ⟨0x91, 1, [0]⟩) }))
     t.pns.position ≠ .judge) := by decide +kernel
/-- A control with a raw value waiting. -/
def turned (f : Filter) : State := (judging 1088 false).modFilter 17 fun _ => f
theorem witness_ControlsAreFilteredAndMoved :
    (turned ⟨none, true, 8000, some 500, some 500⟩).pns.filters[(17 : ControlId)].provisional = none ∧
    (turned ⟨some 2000, false, 0, none, none⟩).pns.filters[(17 : ControlId)] = ⟨some 2000, false, 0, none, none⟩ ∧
    (turned ⟨some 2100, true, 8000, some 500, some 500⟩).pns.filters[(17 : ControlId)] =
      ⟨some 2100, true, 8000, some 500, some 500⟩ ∧
    ready.pbu.bindings[(17 : ControlId)].deadband < (((8000 - 8000 / 4 + 2100) / 16 : Nat) - 500 : Int).natAbs ∧
    ¬ (3 < (((8000 - 8000 / 4 + 2000) / 16 : Nat) - 500 : Int).natAbs) ∧
    (judging 1088 false).pns.position = .refHigh ∧ (judging 1088 false).stu.tests[(1 : Fin 3)] = false ∧
    (judging 1088 false).pns.refLow.reading ≤ 1088 ∧ 3008 ≤ (3136 : BitVec 12).toNat ∧ (3136 : BitVec 12).toNat ≤ 3136 := by
  decide +kernel
/-- A READBACK step whose output has been visited. -/
def readingBack (retry tested : Bool) (j : OutputId) : State :=
  ready.modPns fun x =>
    { x with position := .readback, visited := true, pointer := j, retry := retry, readbackTested := tested }
theorem witness_ReadbackChecksTheLatchedCode :
    ¬ (ready.pns.position = .readback ∧ ready.pns.visited = true) ∧ (readingBack true false 135).pns.position = .readback ∧
    (readingBack true false 135).pns.visited = true ∧ NoPass (readingBack true false 135) ∧
    (readingBack false true 0).pns.readbackTested = true ∧ (0 : Int) - 48 ≤ (48 : BitVec 12).toNat ∧
    ((48 : BitVec 12).toNat : Int) ≤ 0 + 48 ∧ ¬ ((49 : BitVec 12).toNat : Int) ≤ 0 + 48 ∧
    (readingBack true false 127).pns.retry = true ∧ (127 : OutputId).val / 8 = (15 : VoiceId).val ∧
    ((readingBack true false 127).voice 15).state ≠ .disabled ∧ 128 ≤ (135 : OutputId).val := by decide +kernel
theorem witness_ParametersAreWrittenAndRead :
    Ready ready ∧ 3 < (4 : Byte).toNat ∧ 23 < (24 : Byte).toNat ∧ (3 : Byte) = byte (3 : PartId) ∧
    (23 : Byte) = byte (23 : ParamId) ∧ (1 : ParamId).val ≤ 1 ∧
    max paramTable[pUnisonCount].min (min paramTable[pUnisonCount].max (1 : BitVec 16).toNat) ≠ ready.param 0 pUnisonCount := by
  decide +kernel
theorem witness_ControlsAreBoundAndRead :
    Ready ready ∧ 95 < (96 : Byte).toNat ∧ 2 < (3 : Byte).toNat ∧ 3 < (4 : Byte).toNat ∧ 23 < (24 : Byte).toNat ∧
    1 < (2 : Byte).toNat ∧ (95 : Byte) = byte (95 : ControlId) ∧ (23 : Byte) = byte (23 : ParamId) ∧
    (1 : Byte).toNat ≤ 1 ∧ ((1 : Byte) = 1 ∧ (3 : Byte) = byte (3 : PartId)) := by decide
/-- Control 22 bound to CUTOFF of part 0. -/
def bound (k : Pickup) : State :=
  ready.modPbu fun b =>
    { b with bindings := upd b.bindings 22 (fun _ => ⟨.part 0, pCutoff, .pickup, 3, true⟩),
             pickups := upd b.pickups 22 (fun _ => k) }
theorem witness_MotionEventsWriteOrWait :
    1023 ≤ 1023 ∧ ready.pbu.bindings[(22 : ControlId)].target = .unbound ∧
    (bound .waitBelow).pbu.bindings[(22 : ControlId)].target = .part 0 ∧
    (bound .waitBelow).pbu.pickups[(22 : ControlId)] = .waitBelow ∧
    ¬ (bound .waitBelow).param 0 pCutoff ≤ scaled pCutoff 1014 + 8 ∧
    (bound .waitBelow).param 0 pCutoff ≤ scaled pCutoff 1015 + 8 ∧ (bound .locked).pbu.pickups[(22 : ControlId)] = .locked ∧
    scaled pCutoff 1022 ≠ (bound .locked).param 0 pCutoff := by decide +kernel

/-! ### Witnesses: patch memory, status and start-up -/

/-- A recall of a slot held by part 0. -/
def recalling (l : SlotId) (phase : RecallPhase) : State := ready.setRecall 0 (some ⟨l, 1, phase⟩)

theorem witness_RecallLoadsTheSlot :
    Ready ready ∧ 3 < (4 : Byte).toNat ∧ 511 < (512 : BitVec 16).toNat ∧ (3 : Byte) = byte (3 : PartId) ∧
    (511 : BitVec 16) = BitVec.ofNat 16 (511 : SlotId) ∧ ready.pmc.recalls[(0 : PartId)] = none ∧
    (recalling 5 .waiting).pmc.recalls[(0 : PartId)] = some ⟨5, 1, .waiting⟩ ∧
    (recalling 5 .reading).pmc.recalls[(0 : PartId)] = some ⟨5, 1, .reading⟩ ∧
    ((recalling 255 .reading).pmc.memory.page (slotPage 255))[0] = 0xFF := by decide +kernel
theorem witness_valid_slot :
    ((recalling 256 .reading).pmc.memory.page (slotPage 256))[0] = 0x5A ∧
    checkGood ((recalling 256 .reading).pmc.memory.page (slotPage 256)) = true := by
  rw [show (recalling 256 .reading).pmc.memory = [] from rfl, Memory.nil_page]
  decide +kernel
theorem witness_corrupt_slot :
    (let s := writeStore 5 (Vector.replicate 64 0) (recalling 5 .reading)
     (s.pmc.memory.page (slotPage 5))[0] ≠ 0xFF ∧ ¬ ((s.pmc.memory.page (slotPage 5))[0] = 0x5A ∧
      checkGood (s.pmc.memory.page (slotPage 5)) = true)) := by decide +kernel
/-- Bank 0 at a level. -/
def levelled (l : Fin 3) : State := ready.modBank 0 fun b => { b with level := l }
/-- The staging buffer fully loaded with a page. -/
def staged (page : Page) : State :=
  setStaging ⟨Vector.ofFn fun c => Vector.ofFn fun i => page[16 * c.val + i.val], Vector.replicate 4 true, false⟩ ready
theorem witness_WritesAreCheckedAndBegun :
    Ready ready ∧ Ready storing ∧ storing.pmc.engine.operation ≠ none ∧ ready.pmc.engine.operation = none ∧
    15 < (16 : Byte).toNat ∧ (∀ c ∈ (Vector.replicate 12 (0x7E : Byte)).toList, 0x20 ≤ c.toNat ∧ c.toNat ≤ 0x7E) ∧
    (¬ ∀ c ∈ (Vector.replicate 12 (0x1F : Byte)).toList, 0x20 ≤ c.toNat ∧ c.toNat ≤ 0x7E) ∧
    (levelled 1).pmc.banks[bankOf 255].level ≠ 0 ∧ ready.pmc.banks[bankOf 256].level = 0 ∧
    (¬ ∀ k : Fin 4, ready.pmc.staging.loaded[k] = true) ∧ 1 < (2 : Byte).toNat ∧ 2 < (3 : Byte).toNat ∧
    (1 : Byte) = byte (1 : BankId) ∧ (2 : Byte) = byte (2 : Fin 3) ∧ (0 : Fin 3) < (levelled 1).pmc.banks[(0 : BankId)].level ∧
    (1 : Fin 3) = (levelled 1).pmc.banks[(0 : BankId)].level ∧ (levelled 1).pmc.banks[(0 : BankId)].level < (2 : Fin 3) := by
  decide +kernel
theorem witness_page_fields : (paramDefaults[(17 : ParamId)] < 65536) ∧ InCorrectionRange (-4096) ∧ InCorrectionRange 4095 := by
  decide
theorem witness_commit :
    (∀ k : Fin 4, (staged (Vector.replicate 64 0)).pmc.staging.loaded[k] = true) ∧
    (staged (Vector.replicate 64 0)).pmc.staging.committing = false ∧
    ¬ ((stagedPage (staged (Vector.replicate 64 0)).pmc.staging)[0] = 0x5A ∧
      checkGood (stagedPage (staged (Vector.replicate 64 0)).pmc.staging) = true) := by decide +kernel
theorem witness_commit_valid :
    (stagedPage (staged (patchPage 0 (Vector.replicate 12 0x41) paramDefaults)).pmc.staging)[0] = 0x5A ∧
    checkGood (stagedPage (staged (patchPage 0 (Vector.replicate 12 0x41) paramDefaults)).pmc.staging) = true := by
  decide +kernel
theorem witness_StagingIsLoadedAndCleared :
    Ready ready ∧ 3 < (4 : Byte).toNat ∧ (3 : Byte) = byte (3 : Fin 4) ∧ ready.pmc.staging.loaded[(3 : Fin 4)] = false ∧
    (staged erasedPage).pmc.staging.loaded[(3 : Fin 4)] = true ∧ ready.pmc.staging.committing = false ∧
    (setStaging { Staging.reset with committing := true } ready).pmc.staging.committing = true := by decide +kernel
theorem witness_PageReadsAnswer :
    Ready ready ∧ 511 < (512 : BitVec 16).toNat ∧ 3 < (4 : Byte).toNat ∧ (3 : Byte) = byte (3 : Fin 4) ∧
    (ready.modBank 1 fun b => { b with blocked := true }).pmc.banks[bankOf 511].blocked = true ∧
    ready.pmc.banks[bankOf 511].blocked = false ∧ (levelled 2).pmc.banks[bankOf 0].level = 2 ∧
    (levelled 1).pmc.banks[bankOf 0].level ≠ 2 ∧
    (let s := setPageRead (some (.exporting 0 3)) (asked 0x25 9 ready)
     s.lnk.slot = .pending 0x25 9 ∧ s.pmc.pageRead = some (.exporting 0 3)) ∧
    (let s := setPageRead (some (.slotInfo 0)) (asked 0x28 9 ready)
     s.lnk.slot = .pending 0x28 9 ∧ s.pmc.pageRead = some (.slotInfo 0)) ∧ ready.pmc.pageRead = none := by decide +kernel
/-- A wipe of bank 1 in its erase phase. -/
def wiping (k : Nat) : State :=
  modEngine (fun e => { e with operation := some .wipe, target := .bank 1, progress := k }) ready
/-- SAVE_TUNING at page k. -/
def saving (k : Nat) : State :=
  modEngine (fun e => { e with operation := some .saveTuning, image := List.replicate 16 erasedPage, progress := k }) ready
theorem witness_PagesAreWrittenAndErased :
    StoreCanonical ready ∧ writingPage ready.pmc.engine = none ∧ erasingPage ready.pmc.engine = none ∧
    writingPage storing.pmc.engine = some (5, erasedPage) ∧ erasedPage ≠ erasedPage.set 63 0 ∧
    writingPage (saving 14).pmc.engine = some (526, erasedPage) ∧
    writingPage (saving 15).pmc.engine = some (527, erasedPage) ∧
    ¬ ((saving 15).pmc.engine.operation = some .saveTuning ∧ (saving 15).pmc.engine.progress < 15) ∧
    (saving 14).pmc.engine.progress < 15 ∧ storing.pmc.engine.resetWaiting = false ∧
    (modEngine (fun e => { e with resetWaiting := true }) storing).pmc.engine.resetWaiting = true ∧
    storing.stu.counters[cWrites] ≠ 49151 ∧ storing.lnk.notices.length < 24 ∧
    (wiping 255).pmc.engine.progress = (255 : Fin 256).val ∧ (wiping 255).pmc.engine.image = [] ∧
    (wiping 255).pmc.engine.target = .bank 1 := by decide +kernel
theorem witness_FaultsAndMasksAreRequested :
    Ready ready ∧ 1 < (2 : Byte).toNat ∧ (1 : Byte).toNat ≤ 1 ∧ 2048 ≤ (2048 : BitVec 16).toNat ∧
    (2047 : BitVec 16).toNat < 2048 ∧ (15 : Byte).toNat < 16 ∧ (31 : Byte).toNat < 32 := by decide
theorem witness_TestsAndCountersAreRequested :
    Ready ready ∧ (2 : Byte) = byte (2 : Fin 3) ∧ ready.stu.tests[(2 : Fin 3)] = false ∧
    (ready.modStu fun u => { u with tests := upd u.tests 2 fun _ => true }).stu.tests[(2 : Fin 3)] = true ∧
    2 < (3 : Byte).toNat ∧ (3 : Byte) ≠ 5 ∧ (3 : Byte) ≠ 8 ∧ 19 < (20 : Byte).toNat ∧ 12 < (13 : Byte).toNat ∧
    20 < (9 : Byte).toNat + (12 : Byte).toNat ∧ (8 : Byte).toNat + (12 : Byte).toNat ≤ 20 ∧ 0 < (12 : Byte).toNat := by
  decide +kernel
theorem witness_ResetHoldsEveryBlock :
    StoreCanonical ready ∧ writingPage ready.pmc.engine = none ∧ erasingPage ready.pmc.engine = none ∧
    erasingPage (wiping 0).pmc.engine = some 256 ∧ erasingPage (wiping 255).pmc.engine = some 511 ∧
    writingPage storing.pmc.engine = some (5, erasedPage) ∧ erasingPage storing.pmc.engine = none ∧
    storing.pmc.engine.operation ≠ some .wipe ∧ State.reset.phase = .held ∧ ready.phase ≠ .held := by decide +kernel
/-- The load at a page. -/
def loadingAt (k : Fin 17) : State := { loading with loadPage := k }
theorem witness_LoadReadsTheSystemArea :
    ready.phase ≠ .loading ∧ (loadingAt 16).loadPage = 16 ∧ (loadingAt 15).loadPage ≠ 16 ∧
    (loadingAt 15).phase = .loading ∧ (loadingAt 15).loadPage.val = (15 : VoiceId).val := by decide
theorem witness_good_tuning_page :
    (State.reset.pmc.memory.page (tuningPageNo 15))[0] = 0x6C ∧
    checkGood (State.reset.pmc.memory.page (tuningPageNo 15)) = true ∧
    (State.reset.pmc.memory.page (tuningPageNo 15))[50].getLsbD 0 = false := by
  rw [show State.reset.pmc.memory = [] from rfl, Memory.nil_page]
  decide +kernel
theorem witness_good_protection_page :
    (State.reset.pmc.memory.page protectionPageNo)[0] = 0x50 ∧
    checkGood (State.reset.pmc.memory.page protectionPageNo) = true ∧ loading.lnk.notices.length < 24 := by
  rw [show State.reset.pmc.memory = [] from rfl, Memory.nil_page]
  decide +kernel

/-! ### Witnesses: the invariants, at a state that a step leaves -/

/-- A KEY_DOWN waits in the queue of commands. -/
def queued : State := { ready with pending := [.keyDown 0 60 100] }

theorem witness_StepsKeepAlertAndQueues :
    (∃ t, step queued = .next t) ∧ AlertFollowsFlags queued ∧ QueuesBounded queued := ⟨⟨_, rfl⟩, by decide +kernel⟩
theorem witness_StepsKeepGatesAndVoices :
    (∃ t, step queued = .next t) ∧ GatesFollowVoices queued ∧ VoicesCoherent queued := ⟨⟨_, rfl⟩, by decide +kernel⟩
theorem witness_orderly : Orderly queued :=
  ⟨by decide +kernel, by decide +kernel, by decide +kernel, by decide +kernel, by decide +kernel⟩
/-- A start record, and a tune in progress, that are orderly. -/
theorem witness_orderly_busy :
    RecordsCoherent (starting ⟨[0], 1, 60, 9⟩ (playing 2 [60] (alone quenching))) ∧ TunesCoherent fourTuned ∧
    TunesCoherent (takeBackground 3 (passing 3)) ∧ ListsFollowVoices (two quenching) :=
  ⟨by decide +kernel, by decide +kernel, by decide +kernel, by decide +kernel⟩
theorem witness_StepsKeepParametersAndHeldLists :
    (∃ t, step queued = .next t) ∧ ParamsInRange queued ∧ HeldListsBounded queued := ⟨⟨_, rfl⟩, by decide +kernel⟩
theorem witness_StepsKeepTheStoreCanonical :
    (∃ t, step queued = .next t) ∧ StoreCanonical queued := ⟨⟨_, rfl⟩, by decide +kernel⟩
theorem witness_StepsKeepTheTuningCoherent :
    (∃ t, step queued = .next t) ∧ TuningCoherent queued := ⟨⟨_, rfl⟩, by decide +kernel⟩

end Sys2Proof.Tests
end

section
/-!
The queries of the Voice Assigner (R15 to R17): what a request that its owner answers leaves, what each owner places, and
the fields placed byte for byte (10.3.1).
-/

namespace Sys2Proof.Machine

/-! ### A request and its answer -/

@[simp] theorem asked_voice (kind tag : Byte) (s : State) (v : VoiceId) : (asked kind tag s).voice v = s.voice v := rfl
@[simp] theorem asked_part (kind tag : Byte) (s : State) (p : PartId) : (asked kind tag s).part p = s.part p := rfl
@[simp] theorem partFields_asked (kind tag : Byte) (s : State) (p : PartId) :
    partFields (asked kind tag s) p = partFields s p := rfl

/-- The owner's reply to a request, with the arbiter's decision after it, is the answer of R178. -/
theorem arbitrate_placeReply_asked {kind : Byte} (low : kind.toNat < 0x80) (tag : Byte) (status : Status)
    (fields : List Byte) (s : State) :
    arbitrate (placeReply status fields (asked kind tag s)) = answered kind tag status fields s := by
  rw [placeReply_pending (kind := kind) (tag := tag) rfl, replyKind, if_pos low]
  rfl

theorem arbitrate_refuse_asked {kind : Byte} (low : kind.toNat < 0x80) (tag : Byte) (status : Status) (s : State) :
    arbitrate (refuse status (asked kind tag s)) = answered kind tag status [] s :=
  arbitrate_placeReply_asked low tag status [] s

/-! ### GET_VOICE (R15) -/

theorem getVoiceRequest_high {a : Byte} (high : 15 < a.toNat) (s : State) :
    getVoiceRequest a s = refuse .badValue s := by
  have unspelt : voice? a = none := ident?_none high
  simp only [getVoiceRequest, unspelt]

theorem getVoiceRequest_byte (v : VoiceId) (s : State) :
    getVoiceRequest (byte v) s = placeReply .ok (voiceFields (s.voice v)) s := by
  have spelt : voice? (byte v) = some v := ident?_byte (by decide) v
  simp only [getVoiceRequest, spelt]

theorem exec_getVoice {s : State} (h : Ready s) (tag a : Byte) :
    exec (.getVoice tag a) s = .next (arbitrate (getVoiceRequest a (asked 0x17 tag s))) :=
  arrive_request (i := .getVoice tag a) (f := ⟨0x17, tag, [a]⟩) h rfl (by simp [maxPayload]) rfl rfl

theorem exec_getVoice_high {s : State} (h : Ready s) (tag : Byte) {a : Byte} (high : 15 < a.toNat) :
    exec (.getVoice tag a) s = .next (answered 0x17 tag .badValue [] s) := by
  rw [exec_getVoice h, getVoiceRequest_high high, arbitrate_refuse_asked (by decide)]

theorem exec_getVoice_byte {s : State} (h : Ready s) (tag : Byte) (v : VoiceId) :
    exec (.getVoice tag (byte v)) s = .next (answered 0x17 tag .ok (voiceFields (s.voice v)) s) := by
  rw [exec_getVoice h, getVoiceRequest_byte, arbitrate_placeReply_asked (by decide), asked_voice]

/-! ### GET_LISTS (R17) -/

theorem getListsRequest_high {a b : Byte} (high : 3 < a.toNat ∨ 2 < b.toNat) (s : State) :
    getListsRequest a b s = refuse .badValue s := by
  rcases high with part | list
  · have unspelt : part? a = none := ident?_none part
    simp only [getListsRequest, unspelt]
  · have unspelt : ident? 3 b.toNat = none := ident?_none list
    simp only [getListsRequest, unspelt]
    cases part? a <;> rfl

/-- The fields of a list that GET_LISTS can name: 0 the free list, 1 the active list, 2 the held list (R17). -/
def listReply (x : Part) : Fin 3 → List Byte
  | 0 => listFields x.free
  | 1 => listFields x.active
  | 2 => listFields x.held

theorem getListsRequest_byte (p : PartId) (k : Fin 3) (s : State) :
    getListsRequest (byte p) (byte k) s = placeReply .ok (listReply (s.part p) k) s := by
  have part : part? (byte p) = some p := ident?_byte (by decide) p
  have list : ident? 3 (byte k).toNat = some k := ident?_byte (by decide) k
  simp only [getListsRequest, part, list]
  match k with
  | 0 | 1 | 2 => rfl

theorem exec_getLists {s : State} (h : Ready s) (tag a b : Byte) :
    exec (.getLists tag a b) s = .next (arbitrate (getListsRequest a b (asked 0x19 tag s))) :=
  arrive_request (i := .getLists tag a b) (f := ⟨0x19, tag, [a, b]⟩) h rfl (by simp [maxPayload]) rfl rfl

theorem exec_getLists_high {s : State} (h : Ready s) (tag : Byte) {a b : Byte} (high : 3 < a.toNat ∨ 2 < b.toNat) :
    exec (.getLists tag a b) s = .next (answered 0x19 tag .badValue [] s) := by
  rw [exec_getLists h, getListsRequest_high high, arbitrate_refuse_asked (by decide)]

theorem exec_getLists_byte {s : State} (h : Ready s) (tag : Byte) (p : PartId) (k : Fin 3) :
    exec (.getLists tag (byte p) (byte k)) s = .next (answered 0x19 tag .ok (listReply (s.part p) k) s) := by
  rw [exec_getLists h, getListsRequest_byte, arbitrate_placeReply_asked (by decide), asked_part]

/-! ### GET_PART (R16) -/

theorem getPartRequest_high {a : Byte} (high : 3 < a.toNat) (s : State) :
    getPartRequest a s = refuse .badValue s := by
  have unspelt : part? a = none := ident?_none high
  simp only [getPartRequest, unspelt]

theorem getPartRequest_byte (p : PartId) (s : State) :
    getPartRequest (byte p) s = placeReply .ok (partFields s p) s := by
  have spelt : part? (byte p) = some p := ident?_byte (by decide) p
  simp only [getPartRequest, spelt]

theorem exec_getPart {s : State} (h : Ready s) (tag a : Byte) :
    exec (.getPart tag a) s = .next (arbitrate (getPartRequest a (asked 0x18 tag s))) :=
  arrive_request (i := .getPart tag a) (f := ⟨0x18, tag, [a]⟩) h rfl (by simp [maxPayload]) rfl rfl

theorem exec_getPart_high {s : State} (h : Ready s) (tag : Byte) {a : Byte} (high : 3 < a.toNat) :
    exec (.getPart tag a) s = .next (answered 0x18 tag .badValue [] s) := by
  rw [exec_getPart h, getPartRequest_high high, arbitrate_refuse_asked (by decide)]

theorem exec_getPart_byte {s : State} (h : Ready s) (tag : Byte) (p : PartId) :
    exec (.getPart tag (byte p)) s = .next (answered 0x18 tag .ok (partFields s p) s) := by
  rw [exec_getPart h, getPartRequest_byte, arbitrate_placeReply_asked (by decide), partFields_asked]

/-! ### Masks -/

@[simp] theorem maskOf_nil : maskOf [] = 0 := rfl
@[simp] theorem maskOf_cons (b : Bool) (bits : List Bool) : maskOf (b :: bits) = b.toNat + 2 * maskOf bits := rfl

/-- Bit i of a mask is the i-th truth value, and false beyond the last. -/
theorem maskOf_testBit (bits : List Bool) (i : Nat) : (maskOf bits).testBit i = bits.getD i false := by
  induction bits generalizing i with
  | nil => simp
  | cons b bits ih =>
    rw [maskOf_cons]
    cases i with
    | zero =>
      have lowest : (b.toNat + 2 * maskOf bits) % 2 = b.toNat := by have := b.toNat_lt; omega
      rw [Nat.testBit_zero, lowest, List.getD_cons_zero]
      cases b <;> rfl
    | succ i =>
      have rest : (b.toNat + 2 * maskOf bits) / 2 = maskOf bits := by have := b.toNat_lt; omega
      rw [Nat.testBit_succ, rest, ih, List.getD_cons_succ]

/-- The pool of part p as GET_PART reports it (R16). -/
def poolMask (s : State) (p : PartId) : BitVec 16 :=
  BitVec.ofNat 16 (maskOf (allVoices.map fun v => decide ((s.voice v).part = some p)))

/-- Voice v stands in bit v. -/
theorem poolMask_getLsbD (s : State) (p : PartId) (v : VoiceId) :
    (poolMask s p).getLsbD v.val = decide ((s.voice v).part = some p) := by
  rw [poolMask, BitVec.getLsbD_ofNat, maskOf_testBit]
  simp [allVoices]

/-! ### The fields byte for byte (10.3.1) -/

/-- Settles O19: each query is answered with the fields its owner places, and these are read off one by one. Of a voice's
marks and timers, the mask is the sum of its bits' values. -/
theorem queriesReport : Obligations.QueriesReport := by
  intro tag a b s h
  refine ⟨exec_getVoice_high h tag, ?voices, exec_getLists_high h tag, ?lists, exec_getPart_high h tag, ?parts⟩
  case voices =>
    rintro v rfl
    rw [exec_getVoice_byte h]
    generalize s.voice v = x
    refine congrArg (fun fields => Host.Outcome.next (answered 0x17 tag .ok fields s)) ?_
    simp only [voiceFields, maskOf_cons, maskOf_nil, List.cons.injEq, and_true, true_and]
    refine ⟨?part, ?marks, ?timers, ?note, ?velocity, ?pendingNote, ?pendingVelocity, ?lastPlayed⟩
    case part => cases x.part <;> rfl
    case marks =>
      cases x.pendingNote with
      | none => exact congrArg byte (by simp; omega)
      | some n => exact congrArg byte (by simp; omega)
    case timers => exact congrArg byte (by omega)
    case note | velocity => cases x.sound <;> rfl
    case pendingNote | pendingVelocity => cases x.pendingNote <;> rfl
    case lastPlayed => cases x.lastPlayed <;> rfl
  case lists =>
    rintro p rfl
    exact ⟨fun e => e ▸ exec_getLists_byte h tag p 0, fun e => e ▸ exec_getLists_byte h tag p 1,
      fun e => e ▸ exec_getLists_byte h tag p 2⟩
  case parts =>
    rintro p rfl
    refine ⟨poolMask s p, poolMask_getLsbD s p, ?_⟩
    rw [exec_getPart_byte h]
    refine congrArg (fun fields => Host.Outcome.next (answered 0x18 tag .ok fields s)) ?_
    simp only [partFields, word, bytes16, poolMask, List.cons_append, List.nil_append, List.cons.injEq, true_and]
    refine ⟨?channel, rfl, congrArg (signedWord (s.part p).bend ++ ·) ?start⟩
    case channel => cases (s.part p).channel <;> rfl
    case start => cases (s.part p).start <;> rfl

end Sys2Proof.Machine
end

section
/-!
The correction of a pitch (O30, R64): the rules of `round` and `clamp` first (4.3 of the introduction), then the line
through two breakpoints, and that it is the correction on the whole closed piece between them.
-/
namespace Sys2Proof.Machine

/-! ### round (4.3) -/

theorem roundDiv_of_nonneg {a : Int} (h : 0 ≤ a) (n : Nat) :
    roundDiv a n = ((2 * a.natAbs + n) / (2 * n) : Nat) := if_pos h

theorem roundDiv_of_neg {a : Int} (h : a < 0) (n : Nat) :
    roundDiv a n = -(((2 * a.natAbs + n) / (2 * n) : Nat) : Int) := if_neg (by omega)

theorem roundDiv_mono {a b : Int} (h : a ≤ b) (n : Nat) : roundDiv a n ≤ roundDiv b n := by
  rcases Int.lt_or_le a 0 with ha | ha
  · rcases Int.lt_or_le b 0 with hb | hb
    · rw [roundDiv_of_neg ha, roundDiv_of_neg hb]
      exact Int.neg_le_neg (Int.ofNat_le.mpr (Nat.div_le_div_right (by omega)))
    · rw [roundDiv_of_neg ha, roundDiv_of_nonneg hb]
      exact Int.le_trans (Int.neg_nonpos_of_nonneg (Int.natCast_nonneg _)) (Int.natCast_nonneg _)
  · rw [roundDiv_of_nonneg ha, roundDiv_of_nonneg (Int.le_trans ha h)]
    exact Int.ofNat_le.mpr (Nat.div_le_div_right (by omega))

/-- A quotient with no remainder is not moved by the half that is added to it. -/
theorem roundDiv_mul_self (x : Int) {n : Nat} (hn : 0 < n) : roundDiv (x * n) n = x := by
  have whole : (2 * (x * n).natAbs + n) / (2 * n) = x.natAbs := by
    rw [Int.natAbs_mul, Int.natAbs_natCast, Nat.mul_left_comm, Nat.add_comm, Nat.add_mul_div_right _ _ (by omega),
      Nat.div_eq_of_lt (by omega), Nat.zero_add]
  rcases Int.lt_or_le x 0 with hx | hx
  · rw [roundDiv_of_neg (Int.mul_neg_of_neg_of_pos hx (by omega)), whole]
    omega
  · rw [roundDiv_of_nonneg (Int.mul_nonneg hx (by omega)), whole]
    omega

theorem roundDiv_zero {n : Nat} (hn : 0 < n) : roundDiv 0 n = 0 := by
  simpa using roundDiv_mul_self 0 hn

/-- A part `r / n` of `x` rounds to a number between 0 and `x`. -/
theorem roundDiv_mul_mem {x r : Int} {n : Nat} (hn : 0 < n) (h0 : 0 ≤ r) (h1 : r ≤ n) :
    min 0 x ≤ roundDiv (x * r) n ∧ roundDiv (x * r) n ≤ max 0 x := by
  have zero := roundDiv_zero hn
  have self := roundDiv_mul_self x hn
  rcases Int.lt_or_le x 0 with hx | hx
  · have lower := roundDiv_mono (Int.mul_le_mul_of_nonpos_left (Int.le_of_lt hx) h1) n
    have upper := roundDiv_mono (Int.mul_nonpos_of_nonpos_of_nonneg (Int.le_of_lt hx) h0) n
    omega
  · have lower := roundDiv_mono (Int.mul_nonneg hx h0) n
    have upper := roundDiv_mono (Int.mul_le_mul_of_nonneg_left h1 hx) n
    omega

/-! ### clamp (4.3) -/

theorem clampInt_of_mem {lo hi x : Int} (h0 : lo ≤ x) (h1 : x ≤ hi) : clampInt lo hi x = x := by
  simp [clampInt, Int.not_lt.mpr h0, Int.not_lt.mpr h1]

theorem clampInt_mem {lo hi : Int} (h : lo ≤ hi) (x : Int) : lo ≤ clampInt lo hi x ∧ clampInt lo hi x ≤ hi := by
  unfold clampInt
  split
  · omega
  · split <;> omega

theorem clampCode_cast (x : Int) : (clampCode x : Int) = clampInt 0 65535 x :=
  Int.toNat_of_nonneg (clampInt_mem (by decide) x).1

theorem clampCode_le (x : Int) : clampCode x ≤ 65535 := by
  have cast := clampCode_cast x
  have range := clampInt_mem (lo := 0) (hi := 65535) (by decide) x
  omega

theorem clampCode_natCast {q : Nat} (h : q ≤ 65535) : clampCode q = q := by
  have cast := clampCode_cast q
  rw [clampInt_of_mem (Int.natCast_nonneg q) (by omega)] at cast
  omega

theorem clampCode_of_neg {x : Int} (h : x < 0) : clampCode x = clampCode 0 := by
  simp [clampCode, clampInt, h]

theorem clampCode_of_gt {x : Int} (h : 65535 < x) : clampCode x = clampCode 65535 := by
  simp [clampCode, clampInt, h, show ¬ x < 0 by omega]

/-! ### The line between two breakpoints (R64, step 3) -/

/-- The correction at `p` on the line from breakpoint `k` to breakpoint `k + 1`. -/
def lineAt (t : Vector Int 12) (k : Fin 11) (p : Int) : Int :=
  t[k.val] + roundDiv ((t[k.val + 1] - t[k.val]) * (p - 6144 * k.val)) 6144

theorem lineAt_lower (t : Vector Int 12) (k : Fin 11) : lineAt t k (6144 * k.val) = t[k.val] := by
  simp [lineAt, roundDiv_zero]

theorem lineAt_upper (t : Vector Int 12) (k : Fin 11) : lineAt t k (6144 * (k.val + 1)) = t[k.val + 1] := by
  have width : 6144 * ((k.val : Int) + 1) - 6144 * k.val = (6144 : Nat) := by omega
  rw [lineAt, width, roundDiv_mul_self _ (by decide)]
  omega

/-- The lines of two neighbouring pieces meet at the breakpoint they share. -/
theorem lineAt_meet (t : Vector Int 12) {k next : Fin 11} (h : next.val = k.val + 1) :
    lineAt t k (6144 * next.val) = lineAt t next (6144 * next.val) := by
  have place : 6144 * (next.val : Int) = 6144 * (k.val + 1) := by omega
  have entry : t[next.val] = t[k.val + 1] := by simp only [h]
  rw [lineAt_lower, entry, place, lineAt_upper]

theorem lineAt_mem (t : Vector Int 12) {k : Fin 11} {p : Int} (h0 : 6144 * (k.val : Int) ≤ p)
    (h1 : p ≤ 6144 * (k.val + 1 : Int)) :
    min t[k.val] t[k.val + 1] ≤ lineAt t k p ∧ lineAt t k p ≤ max t[k.val] t[k.val + 1] := by
  have part := roundDiv_mul_mem (x := t[k.val + 1] - t[k.val]) (r := p - 6144 * k.val) (n := 6144) (by decide)
    (by omega) (by omega)
  unfold lineAt
  omega

/-! ### The correction and the code -/

theorem breakpointOf_eq {q : Nat} {k : Fin 11} (h0 : 6144 * k.val ≤ q) (h1 : q < 6144 * (k.val + 1)) :
    breakpointOf q = k := by
  apply Fin.ext
  simp only [breakpointOf]
  omega

theorem correctionAt_of_breakpointOf (t : Vector Int 12) {q : Nat} {k : Fin 11} (hk : breakpointOf q = k)
    (h0 : 6144 * k.val ≤ q) : correctionAt t q = lineAt t k q := by
  subst hk
  simp [correctionAt, lineAt, Int.ofNat_sub h0]

/-- The line of a piece gives the correction on the whole piece: at its upper end the next piece begins, where the
two lines meet. -/
theorem correctionAt_eq_lineAt (t : Vector Int 12) {q : Nat} {k : Fin 11} (h0 : 6144 * k.val ≤ q)
    (h1 : q ≤ 6144 * (k.val + 1)) (hq : q ≤ 65535) : correctionAt t q = lineAt t k q := by
  rcases Nat.lt_or_eq_of_le h1 with inside | rfl
  · exact correctionAt_of_breakpointOf t (breakpointOf_eq h0 inside) h0
  · obtain ⟨next, follows⟩ : ∃ j : Fin 11, j.val = k.val + 1 := ⟨⟨k.val + 1, by omega⟩, rfl⟩
    have place : ((6144 * next.val : Nat) : Int) = 6144 * next.val := Int.natCast_mul _ _
    rw [← follows, correctionAt_of_breakpointOf t (breakpointOf_eq (k := next) (Nat.le_refl _) (by omega)) (Nat.le_refl _),
      place, lineAt_meet t follows]

/-- The code of a pitch in the piece from breakpoint `k` to breakpoint `k + 1`, both included. -/
theorem correctPitch_eq_lineAt (t : Vector Int 12) {p : Int} {k : Fin 11} (h0 : 6144 * (k.val : Int) ≤ p)
    (h1 : p ≤ 6144 * (k.val + 1 : Int)) (hp : p ≤ 65535) :
    (correctPitch t p : Int) = clampInt 0 65535 (p + lineAt t k p) := by
  obtain ⟨q, rfl⟩ := Int.eq_ofNat_of_zero_le (show 0 ≤ p by omega)
  rw [correctPitch, clampCode_cast, clampCode_natCast (by omega),
    correctionAt_eq_lineAt t (k := k) (by omega) (by omega) (by omega)]

/-- A code depends on its pitch through the pitch clamped (R64, step 1). -/
theorem correctPitch_congr (t : Vector Int 12) {p p' : Int} (h : clampCode p = clampCode p') :
    correctPitch t p = correctPitch t p' := by
  rw [correctPitch, h, correctPitch]

/-- Settles O30: on each piece the correction is the piece's line, whose values lie between its two ends; outside the
range the clamped pitch is that of the nearer end. -/
theorem pitchIsCorrectedByItsTable : Obligations.PitchIsCorrectedByItsTable := by
  intro t p
  refine ⟨?piece, ?breakpoint, ?below, ?above, clampCode_le _⟩
  case piece => exact fun k h0 h1 _ hp => ⟨correctPitch_eq_lineAt t h0 h1 hp, lineAt_mem t h0 h1⟩
  case breakpoint =>
    intro k
    rw [correctPitch_eq_lineAt t (Int.le_refl _) (by omega) (by omega), lineAt_lower]
  case below => exact fun h => correctPitch_congr t (clampCode_of_neg h)
  case above => exact fun h => correctPitch_congr t (clampCode_of_gt h)

end Sys2Proof.Machine
end

section
/-!
The tables of corrections over the link (O37, R99, R100): what zeroing a list of tables leaves, what GET_TUNING and
RESET_TUNING place, and the answer of the part to each.
-/

namespace Sys2Proof.Machine

/-! ### GET_TUNING (R99) -/

theorem getTuningRequest_high {osc : Byte} (high : 31 < osc.toNat) (s : State) :
    getTuningRequest osc s = refuse .badValue s := by
  simp only [getTuningRequest, ident?_none (Nat.succ_le_of_lt high)]

theorem getTuningRequest_byte (o : OscId) (s : State) :
    getTuningRequest (byte o) s = placeReply .ok (s.tun.tables[o].toList.flatMap signedWord) s := by
  simp only [getTuningRequest, ident?_byte (by decide) o]

theorem exec_getTuning {s : State} (h : Ready s) (tag osc : Byte) :
    exec (.getTuning tag osc) s = .next (arbitrate (getTuningRequest osc (asked 0x33 tag s))) :=
  arrive_request (i := .getTuning tag osc) (f := ⟨0x33, tag, [osc]⟩) h rfl (by simp [maxPayload]) rfl rfl

theorem exec_getTuning_high {s : State} (h : Ready s) (tag : Byte) {osc : Byte} (high : 31 < osc.toNat) :
    exec (.getTuning tag osc) s = .next (answered 0x33 tag .badValue [] s) := by
  rw [exec_getTuning h, getTuningRequest_high high, arbitrate_refuse_asked (by decide)]

theorem exec_getTuning_byte {s : State} (h : Ready s) (tag : Byte) (o : OscId) :
    exec (.getTuning tag (byte o)) s =
      .next (answered 0x33 tag .ok (s.tun.tables[o].toList.flatMap signedWord) s) := by
  rw [exec_getTuning h, getTuningRequest_byte, arbitrate_placeReply_asked (by decide)]
  rfl

/-! ### Tables replaced one after another -/

/-- The state with the tables of some oscillators replaced by one table. -/
def withTables (chosen : OscId → Bool) (table : Vector Int 12) (s : State) : State :=
  s.modTun fun u => { u with tables := Vector.ofFn fun o => if chosen o then table else u.tables[o] }

theorem withTables_none {chosen : OscId → Bool} (unchosen : ∀ o, chosen o = false) (table : Vector Int 12) (s : State) :
    withTables chosen table s = s := by
  have kept : (Vector.ofFn fun o : OscId => if chosen o then table else s.tun.tables[o]) = s.tun.tables := by
    ext o ho : 1
    simp [unchosen]
  rw [withTables, State.modTun, kept]

/-- Entry by entry: a table replaced and then those of others are the tables of all of these replaced. -/
theorem ofFn_chosen_upd (chosen : OscId → Bool) (o : OscId) (table : Vector Int 12) (tables : Vector (Vector Int 12) 32) :
    (Vector.ofFn fun k : OscId => if chosen k then table else (upd tables o fun _ => table)[k]) =
      Vector.ofFn fun k : OscId => if decide (k = o) || chosen k then table else tables[k] := by
  refine congrArg Vector.ofFn (funext fun k => ?_)
  rw [upd_get]
  by_cases same : k = o
  · simp [same]
  · simp [same, Ne.symm same]

theorem withTables_setTable (chosen : OscId → Bool) (o : OscId) (table : Vector Int 12) (s : State) :
    withTables chosen table (s.setTable o table) = withTables (fun k => decide (k = o) || chosen k) table s := by
  simp only [withTables, State.setTable, State.modTun]
  rw [ofFn_chosen_upd]

/-- The tables of a list replaced one by one are the tables of its members replaced. -/
theorem foldl_setTable (l : List OscId) (table : Vector Int 12) (s : State) :
    l.foldl (fun s o => s.setTable o table) s = withTables (fun k => decide (k ∈ l)) table s := by
  induction l generalizing s with
  | nil => exact (withTables_none (fun _ => rfl) table s).symm
  | cons o l ih => simp only [List.foldl_cons, ih, withTables_setTable, List.mem_cons, Bool.decide_or]

/-- Replacing tables and taking the reply slot touch different blocks. -/
theorem withTables_asked (chosen : OscId → Bool) (table : Vector Int 12) (kind tag : Byte) (s : State) :
    withTables chosen table (asked kind tag s) = asked kind tag (withTables chosen table s) := rfl

/-! ### RESET_TUNING (R100) -/

/-- An oscillator of the mask belongs to a TUNING voice. -/
def MaskTunes (mask : BitVec 32) (s : State) : Prop :=
  ∃ o : OscId, mask.getLsbD o.val = true ∧ (s.voice (voiceOfOsc o)).state = .tuning

theorem any_chosen_tuning (mask : BitVec 32) (s : State) :
    (((List.finRange 32).filter fun o : OscId => mask.getLsbD o.val).any fun o =>
      decide ((s.voice (voiceOfOsc o)).state = .tuning)) = true ↔ MaskTunes mask s := by
  simp [MaskTunes]

theorem resetTuningRequest_busy {mask : BitVec 32} {s : State} (busy : MaskTunes mask s) :
    resetTuningRequest mask s = refuse .busy s :=
  if_pos ((any_chosen_tuning mask s).mpr busy)

theorem foldl_setTable_mask (mask : BitVec 32) (table : Vector Int 12) (s : State) :
    ((List.finRange 32).filter fun o : OscId => mask.getLsbD o.val).foldl (fun s o => s.setTable o table) s =
      withTables (fun o => mask.getLsbD o.val) table s := by
  simp [foldl_setTable]

theorem resetTuningRequest_free {mask : BitVec 32} {s : State} (free : ¬ MaskTunes mask s) :
    resetTuningRequest mask s =
      placeReply .ok [] (withTables (fun o => mask.getLsbD o.val) (Vector.replicate 12 0) s) := by
  rw [← foldl_setTable_mask]
  exact if_neg fun tunes => free ((any_chosen_tuning mask s).mp tunes)

/-- A four-byte field read as it was sent (R204). -/
theorem append_quarters (w : BitVec 32) :
    w.extractLsb' 24 8 ++ w.extractLsb' 16 8 ++ w.extractLsb' 8 8 ++ w.extractLsb' 0 8 = w := by
  rw [BitVec.extractLsb'_append_extractLsb'_eq_extractLsb' (start₂ := 24) (start₁ := 16) rfl,
    BitVec.extractLsb'_append_extractLsb'_eq_extractLsb' (start₂ := 16) (start₁ := 8) rfl,
    BitVec.extractLsb'_append_extractLsb'_eq_extractLsb' (start₂ := 8) (start₁ := 0) rfl]
  exact BitVec.extractLsb'_eq_self

theorem frameMeaning_resetTuning (tag : Byte) (mask : BitVec 32) :
    frameMeaning ⟨0x34, tag, bytes32 mask⟩ = .message (.resetTuning tag mask) :=
  congrArg (fun w => FrameMeaning.message (.resetTuning tag w)) (append_quarters mask)

theorem exec_resetTuning {s : State} (h : Ready s) (tag : Byte) (mask : BitVec 32) :
    exec (.resetTuning tag mask) s = .next (arbitrate (resetTuningRequest mask (asked 0x34 tag s))) :=
  arrive_request (i := .resetTuning tag mask) (f := ⟨0x34, tag, bytes32 mask⟩) h rfl (by simp [maxPayload, bytes32])
    (frameMeaning_resetTuning tag mask) rfl

theorem exec_resetTuning_busy {s : State} (h : Ready s) (tag : Byte) {mask : BitVec 32} (busy : MaskTunes mask s) :
    exec (.resetTuning tag mask) s = .next (answered 0x34 tag .busy [] s) := by
  have tunes : MaskTunes mask (asked 0x34 tag s) := busy
  rw [exec_resetTuning h, resetTuningRequest_busy tunes, arbitrate_refuse_asked (by decide)]

theorem exec_resetTuning_free {s : State} (h : Ready s) (tag : Byte) {mask : BitVec 32} (free : ¬ MaskTunes mask s) :
    exec (.resetTuning tag mask) s = .next (answered 0x34 tag .ok []
      (withTables (fun o => mask.getLsbD o.val) (Vector.replicate 12 0) s)) := by
  have idle : ¬ MaskTunes mask (asked 0x34 tag s) := free
  rw [exec_resetTuning h, resetTuningRequest_free idle, withTables_asked, arbitrate_placeReply_asked (by decide)]

/-- Settles O37: GET_TUNING by whether its field spells an oscillator, RESET_TUNING by whether an oscillator of its mask
tunes; where none does, the tables replaced one by one are those of the mask. -/
theorem tuningTablesAreReadAndZeroed : Obligations.TuningTablesAreReadAndZeroed := by
  intro tag osc mask s h
  refine ⟨exec_getTuning_high h tag, ?spelt, exec_resetTuning_busy h tag, exec_resetTuning_free h tag⟩
  rintro o rfl
  exact exec_getTuning_byte h tag o

end Sys2Proof.Machine
end

section
/-!
Controls and their bindings (O44, R128 to R133): the pickup state that a reset gives, what the replacement of a binding
leaves, and the replies to BIND_CONTROL and GET_CONTROL.
-/

namespace Sys2Proof.Machine

/-! ### Pickup (R132, R133) -/

/-- A binding writes part p now: as its own part, or as the part FOCUS names (R131). -/
theorem boundPart_eq_some {s : State} {b : Binding} {p : PartId} :
    boundPart s b = some p ↔ b.target = .part p ∨ (b.target = .focus ∧ s.pbu.focus = p) := by
  unfold boundPart
  cases b.target <;> simp

theorem boundPart_eq_none {s : State} {b : Binding} : boundPart s b = none ↔ b.target = .unbound := by
  unfold boundPart
  cases b.target <;> simp

/-- The pickup state that a binding warrants for a filtered value: LOCKED when it writes no part (R133). -/
def warrantedIn (s : State) (b : Binding) (filtered : Option Nat) : Pickup :=
  (boundPart s b).elim .locked fun p => warrantedPickup b filtered (s.param p b.index)

theorem resetPickupState_eq (s : State) (c : ControlId) :
    resetPickupState s c = warrantedIn s s.pbu.bindings[c] s.pns.filters[c].filtered := by
  simp only [resetPickupState, warrantedIn]
  generalize s.pbu.bindings[c] = b
  cases boundPart s b with
  | none => rfl
  | some p =>
    obtain ⟨_, _, mode, _, _⟩ := b
    cases mode with
    | jump => rfl
    | pickup => cases s.pns.filters[c].filtered <;> rfl

/-! ### BIND_CONTROL (R129, R133) -/

/-- The state with the binding of control c replaced and its pickup reset. -/
def rebound (c : ControlId) (b : Binding) (s : State) : State :=
  resetPickup (s.modPbu fun x => { x with bindings := upd x.bindings c fun _ => b }) c

theorem rebound_eq (c : ControlId) (b : Binding) (s : State) :
    rebound c b s = s.modPbu fun x =>
      { x with bindings := upd x.bindings c (fun _ => b),
               pickups := upd x.pickups c (fun _ => warrantedIn s b s.pns.filters[c].filtered) } := by
  have now : resetPickupState (s.modPbu fun x => { x with bindings := upd x.bindings c fun _ => b }) c =
      warrantedIn s b s.pns.filters[c].filtered := by
    rw [resetPickupState_eq, State.modPbu_pbu, State.modPbu_pns]
    exact congrArg (warrantedIn s · s.pns.filters[c].filtered) (upd_get_self ..)
  rw [rebound, resetPickup, now]
  rfl

theorem rebound_pickup (c : ControlId) (b : Binding) (s : State) :
    (rebound c b s).pbu.pickups[c] = warrantedIn s b s.pns.filters[c].filtered := by
  rw [rebound_eq]
  exact upd_get_self ..

theorem rebound_asked (c : ControlId) (b : Binding) (kind tag : Byte) (s : State) :
    rebound c b (asked kind tag s) = asked kind tag (rebound c b s) := rfl

theorem target?_high {target : Byte} (high : 2 < target.toNat) (part : Byte) : target? target part = none := by
  unfold target?
  split
  · omega
  · omega
  · omega
  · rfl

theorem target?_part_high {part : Byte} (high : 3 < part.toNat) : target? 1 part = none :=
  congrArg (Option.map Target.part) (show part? part = none from ident?_none high)

theorem target?_part (p : PartId) : target? 1 (byte p) = some (.part p) :=
  congrArg (Option.map Target.part) (show part? (byte p) = some p from ident?_byte (by decide) p)

theorem bit?_high {b : Byte} (high : 1 < b.toNat) : bit? b = none := by
  rw [bit?, if_neg (by omega), if_neg (by omega)]

/-- A byte of 0 or 1 is one of the two. -/
theorem eq_zero_or_one {b : Byte} (low : b.toNat ≤ 1) : b = 0 ∨ b = 1 := by bv_omega

theorem bit?_low {b : Byte} (low : b.toNat ≤ 1) : bit? b = some (decide (b = 1)) := by
  rcases eq_zero_or_one low with rfl | rfl <;> rfl

/-- The fields that R129 refuses, the control apart, spell no binding. -/
theorem binding?_refused {target part index mode report : Byte} (deadband : Byte)
    (refused : 2 < target.toNat ∨ (target = 1 ∧ 3 < part.toNat) ∨ 23 < index.toNat ∨ 1 < mode.toNat ∨
      1 < report.toNat) :
    binding? target part index mode deadband report = none := by
  have unspelt : target? target part = none ∨ param? index = none ∨ bit? mode = none ∨ bit? report = none := by
    rcases refused with h | ⟨rfl, h⟩ | h | h | h
    · exact .inl (target?_high h part)
    · exact .inl (target?_part_high h)
    · exact .inr (.inl (ident?_none h))
    · exact .inr (.inr (.inl (bit?_high h)))
    · exact .inr (.inr (.inr (bit?_high h)))
  unfold binding?
  split
  · simp_all
  · rfl

/-- The binding that fields in range spell. -/
theorem binding?_spelt {target part mode report : Byte} {aim : Target} (aimed : target? target part = some aim)
    (i : ParamId) (deadband : Byte) (lowMode : mode.toNat ≤ 1) (lowReport : report.toNat ≤ 1) :
    binding? target part (byte i) mode deadband report =
      some ⟨aim, i, if mode = 1 then .pickup else .jump, min deadband.toNat 15, decide (report = 1)⟩ := by
  have index : param? (byte i) = some i := ident?_byte (by decide) i
  simp only [binding?, aimed, index, bit?_low lowMode, bit?_low lowReport, decide_eq_true_eq]

/-- The reply carries a spelt binding's fields as the request did, but for an unused part and a clamped deadband. -/
theorem bindingFields_spelt {target part mode report : Byte} {aim : Target}
    (codes : aim.codes = (target, if target = 1 then part else 0)) (i : ParamId) (deadband : Nat)
    (lowMode : mode.toNat ≤ 1) (lowReport : report.toNat ≤ 1) :
    bindingFields ⟨aim, i, if mode = 1 then .pickup else .jump, deadband, decide (report = 1)⟩ =
      [target, if target = 1 then part else 0, byte i, mode, byte deadband, report] := by
  have modeCode : (if mode = 1 then BindMode.pickup else BindMode.jump).code = mode := by
    rcases eq_zero_or_one lowMode with rfl | rfl <;> rfl
  have reportCode : flagByte (decide (report = 1)) = report := by
    rcases eq_zero_or_one lowReport with rfl | rfl <;> rfl
  simp only [bindingFields, codes, modeCode, reportCode]

theorem bindControlRequest_refused {control target part index mode report : Byte} (deadband : Byte)
    (refused : 95 < control.toNat ∨ 2 < target.toNat ∨ (target = 1 ∧ 3 < part.toNat) ∨ 23 < index.toNat ∨
      1 < mode.toNat ∨ 1 < report.toNat) (s : State) :
    bindControlRequest control target part index mode deadband report s = refuse .badValue s := by
  rcases refused with high | refused
  · have unspelt : control? control = none := ident?_none high
    simp only [bindControlRequest, unspelt]
  · simp only [bindControlRequest, binding?_refused deadband refused]
    cases control? control <;> rfl

theorem bindControlRequest_spelt (c : ControlId) {target part index mode deadband report : Byte} {b : Binding}
    (spelt : binding? target part index mode deadband report = some b) (s : State) :
    bindControlRequest (byte c) target part index mode deadband report s =
      placeReply .ok (byte c :: (bindingFields b ++ [(warrantedIn s b s.pns.filters[c].filtered).code]))
        (rebound c b s) := by
  have control : control? (byte c) = some c := ident?_byte (by decide) c
  simp only [bindControlRequest, control, spelt]
  rw [← rebound, rebound_pickup]

theorem exec_bindControl {s : State} (h : Ready s) (tag control target part index mode deadband report : Byte) :
    exec (.bindControl tag control target part index mode deadband report) s = .next (arbitrate
      (bindControlRequest control target part index mode deadband report (asked 0x1C tag s))) :=
  arrive_request (i := .bindControl tag control target part index mode deadband report)
    (f := ⟨0x1C, tag, [control, target, part, index, mode, deadband, report]⟩) h rfl (by simp [maxPayload]) rfl rfl

theorem exec_bindControl_refused {s : State} (h : Ready s) (tag : Byte)
    {control target part index mode deadband report : Byte}
    (refused : 95 < control.toNat ∨ 2 < target.toNat ∨ (target = 1 ∧ 3 < part.toNat) ∨ 23 < index.toNat ∨
      1 < mode.toNat ∨ 1 < report.toNat) :
    exec (.bindControl tag control target part index mode deadband report) s =
      .next (answered 0x1C tag .badValue [] s) := by
  rw [exec_bindControl h, bindControlRequest_refused deadband refused, arbitrate_refuse_asked (by decide)]

theorem exec_bindControl_spelt {s : State} (h : Ready s) (tag : Byte) (c : ControlId)
    {target part index mode deadband report : Byte} {b : Binding}
    (spelt : binding? target part index mode deadband report = some b) :
    exec (.bindControl tag (byte c) target part index mode deadband report) s = .next (answered 0x1C tag .ok
      (byte c :: (bindingFields b ++ [(warrantedIn s b s.pns.filters[c].filtered).code])) (rebound c b s)) := by
  rw [exec_bindControl h, bindControlRequest_spelt c spelt, rebound_asked, arbitrate_placeReply_asked (by decide)]
  rfl

/-- An accepted request, by the target that its fields name. -/
theorem exec_bindControl_aimed {s : State} (h : Ready s) (tag : Byte) (c : ControlId) {target part mode report : Byte}
    {aim : Target} (aimed : target? target part = some aim)
    (codes : aim.codes = (target, if target = 1 then part else 0)) (i : ParamId) (deadband : Byte)
    (lowMode : mode.toNat ≤ 1) (lowReport : report.toNat ≤ 1) :
    let b : Binding := ⟨aim, i, if mode = 1 then .pickup else .jump, min deadband.toNat 15, decide (report = 1)⟩
    let k := warrantedIn s b s.pns.filters[c].filtered
    exec (.bindControl tag (byte c) target part (byte i) mode deadband report) s = .next (answered 0x1C tag .ok
      [byte c, target, if target = 1 then part else 0, byte i, mode, byte (min deadband.toNat 15), report, k.code]
      (s.modPbu fun x =>
        { x with bindings := upd x.bindings c (fun _ => b), pickups := upd x.pickups c (fun _ => k) })) := by
  intro b k
  rw [exec_bindControl_spelt h tag c (binding?_spelt aimed i deadband lowMode lowReport),
    bindingFields_spelt codes i _ lowMode lowReport, rebound_eq]
  rfl

/-! ### GET_CONTROL (R130) -/

theorem getControlRequest_high {control : Byte} (high : 95 < control.toNat) (s : State) :
    getControlRequest control s = refuse .badValue s := by
  have unspelt : control? control = none := ident?_none high
  simp only [getControlRequest, unspelt]

theorem getControlRequest_byte (c : ControlId) (s : State) :
    getControlRequest (byte c) s = placeReply .ok (controlFields s c) s := by
  have spelt : control? (byte c) = some c := ident?_byte (by decide) c
  simp only [getControlRequest, spelt]

theorem exec_getControl {s : State} (h : Ready s) (tag control : Byte) :
    exec (.getControl tag control) s = .next (arbitrate (getControlRequest control (asked 0x1D tag s))) :=
  arrive_request (i := .getControl tag control) (f := ⟨0x1D, tag, [control]⟩) h rfl (by simp [maxPayload]) rfl rfl

theorem exec_getControl_high {s : State} (h : Ready s) (tag : Byte) {control : Byte} (high : 95 < control.toNat) :
    exec (.getControl tag control) s = .next (answered 0x1D tag .badValue [] s) := by
  rw [exec_getControl h, getControlRequest_high high, arbitrate_refuse_asked (by decide)]

theorem exec_getControl_byte {s : State} (h : Ready s) (tag : Byte) (c : ControlId) :
    exec (.getControl tag (byte c)) s = .next (answered 0x1D tag .ok (controlFields s c) s) := by
  rw [exec_getControl h, getControlRequest_byte, arbitrate_placeReply_asked (by decide)]
  rfl

/-- The scaled value reported is that of a bound control's filtered value, when it has one. -/
theorem scaledNow_eq (s : State) (c : ControlId) :
    scaledNow s c = if s.pbu.bindings[c].target = .unbound then none
      else s.pns.filters[c].filtered.map (scaled s.pbu.bindings[c].index) := by
  simp only [scaledNow]
  generalize s.pbu.bindings[c] = b
  cases bound : boundPart s b with
  | none => rw [if_pos (boundPart_eq_none.mp bound)]
  | some p =>
    have aimed : b.target ≠ .unbound := fun unbound => by simp [boundPart_eq_none.mpr unbound] at bound
    rw [if_neg aimed]
    cases s.pns.filters[c].filtered <;> rfl

/-- The two marks of a GET_CONTROL reply: bit 0 the filtered value, bit 1 the scaled value. -/
theorem maskOf_pair (a b : Bool) : maskOf [a, b] = a.toNat + 2 * b.toNat := rfl

/-- Settles O44: BIND_CONTROL by whether its fields spell a binding, an accepted one by its target, which says the part
whose value the pickup reset meets; GET_CONTROL by whether its field spells a control. -/
theorem controlsAreBoundAndRead : Obligations.ControlsAreBoundAndRead := by
  intro tag control target part index mode deadband report s h
  refine ⟨exec_bindControl_refused h tag, exec_getControl_high h tag, ?_⟩
  rintro c rfl
  refine ⟨?bind, (exec_getControl_byte h tag c).trans (by rw [controlFields, scaledNow_eq, maskOf_pair]; rfl)⟩
  rintro i aim rfl lowMode lowReport aimed
  cases aim with
  | unbound =>
    obtain rfl : target = 0 := aimed
    exact exec_bindControl_aimed h tag c rfl rfl i deadband lowMode lowReport
  | part p =>
    obtain ⟨rfl, rfl⟩ : target = 1 ∧ part = byte p := aimed
    exact exec_bindControl_aimed h tag c (target?_part p) rfl i deadband lowMode lowReport
  | focus =>
    obtain rfl : target = 2 := aimed
    exact exec_bindControl_aimed h tag c rfl rfl i deadband lowMode lowReport

end Sys2Proof.Machine
end

section
/-!
What SET_PARAM is made of (O43): the value stored (R123), the run of pickup resets (R134), the silence of the part in
RELEASE form (R44, R126), and its PART_SILENT decision (R49), which can come before or after a change of another block.
-/

namespace Sys2Proof.Machine

/-! ### A run of pickup resets (R134) -/

/-- The pickup states with those of some controls reset. Irreducible, so that a comparison of states does not go through
its ninety-six entries. -/
@[irreducible] def pickupsReset (chosen : ControlId → Bool) (s : State) : Vector Pickup 96 :=
  Vector.ofFn fun c => if chosen c then resetPickupState s c else s.pbu.pickups[c]

theorem pickupsReset_get (chosen : ControlId → Bool) (s : State) (c : ControlId) :
    (pickupsReset chosen s)[c] = if chosen c then resetPickupState s c else s.pbu.pickups[c] := by
  delta pickupsReset
  simp

theorem pickupsReset_eq_iff {chosen : ControlId → Bool} {s : State} {k : Vector Pickup 96} :
    pickupsReset chosen s = k ↔
      ∀ c : ControlId, (if chosen c then resetPickupState s c else s.pbu.pickups[c]) = k[c] := by
  simp only [← pickupsReset_get]
  exact ⟨fun same c => same ▸ rfl, fun each => Vector.ext fun c inside => each ⟨c, inside⟩⟩

/-- A pickup reset reads the Parameter and Binding Unit and the Panel Scanner alone. -/
theorem pickupsReset_congr (chosen : ControlId → Bool) {s t : State} (pbu : t.pbu = s.pbu) (pns : t.pns = s.pns) :
    pickupsReset chosen t = pickupsReset chosen s := by
  have each (c : ControlId) : resetPickupState t c = resetPickupState s c := by
    simp only [resetPickupState_eq, warrantedIn, boundPart, State.param, pbu, pns]
  exact pickupsReset_eq_iff.mpr fun c => by rw [pickupsReset_get, each, pbu]

/-- The state with the pickup states of some controls reset. -/
def withPickups (chosen : ControlId → Bool) (s : State) : State :=
  s.modPbu fun x => { x with pickups := pickupsReset chosen s }

theorem withPickups_param (chosen : ControlId → Bool) (s : State) (p : PartId) (i : ParamId) :
    (withPickups chosen s).param p i = s.param p i := rfl
theorem withPickups_edits (chosen : ControlId → Bool) (s : State) :
    (withPickups chosen s).pbu.edits = s.pbu.edits := rfl
theorem withPickups_pickups (chosen : ControlId → Bool) (s : State) :
    (withPickups chosen s).pbu.pickups = pickupsReset chosen s := rfl
theorem withPickups_vas (chosen : ControlId → Bool) (s : State) : (withPickups chosen s).vas = s.vas := rfl
theorem withPickups_cvo (chosen : ControlId → Bool) (s : State) : (withPickups chosen s).cvo = s.cvo := rfl
theorem withPickups_part (chosen : ControlId → Bool) (s : State) (p : PartId) :
    (withPickups chosen s).part p = s.part p := rfl
theorem withPickups_voice (chosen : ControlId → Bool) (s : State) (v : VoiceId) :
    (withPickups chosen s).voice v = s.voice v := rfl

theorem withPickups_none {chosen : ControlId → Bool} (unchosen : ∀ c, chosen c = false) (s : State) :
    withPickups chosen s = s := by
  have kept : pickupsReset chosen s = s.pbu.pickups := pickupsReset_eq_iff.mpr fun c => by simp [unchosen]
  rw [withPickups, State.modPbu, kept]

/-- A pickup state does not depend on the pickup state it replaces, nor on any other. -/
theorem resetPickupState_resetPickup (s : State) (c d : ControlId) :
    resetPickupState (resetPickup s d) c = resetPickupState s c := rfl

theorem resetPickup_pickup (s : State) (c d : ControlId) :
    (resetPickup s d).pbu.pickups[c] = if d = c then resetPickupState s d else s.pbu.pickups[c] := upd_get ..

theorem withPickups_resetPickup (chosen : ControlId → Bool) (d : ControlId) (s : State) :
    withPickups chosen (resetPickup s d) = withPickups (fun c => decide (c = d) || chosen c) s := by
  have pickups : pickupsReset chosen (resetPickup s d) = pickupsReset (fun c => decide (c = d) || chosen c) s := by
    refine pickupsReset_eq_iff.mpr fun c => ?_
    rw [pickupsReset_get, resetPickupState_resetPickup, resetPickup_pickup]
    by_cases same : c = d
    · simp [same]
    · simp [same, Ne.symm same]
  rw [withPickups, withPickups, pickups]
  rfl

/-- The pickup resets of a list of controls, one after another, are those of its members. -/
theorem foldl_resetPickup (l : List ControlId) (s : State) :
    l.foldl resetPickup s = withPickups (fun c => decide (c ∈ l)) s := by
  induction l generalizing s with
  | nil => exact (withPickups_none (fun _ => rfl) s).symm
  | cons c l ih => simp only [List.foldl_cons, ih, withPickups_resetPickup, List.mem_cons, Bool.decide_or]

theorem resetPickups_eq (which : Binding → Bool) (s : State) :
    resetPickups which s = withPickups (fun c => which s.pbu.bindings[c]) s := by
  simp [resetPickups, foldl_resetPickup, allControls]

/-! ### The write (R123) -/

theorem paramTable_ordered : ∀ i : ParamId, paramTable[i].min ≤ paramTable[i].max := by decide

theorem clampNat_eq {lo hi : Nat} (ordered : lo ≤ hi) (x : Nat) : clampNat lo hi x = max lo (min hi x) := by
  unfold clampNat
  split
  · omega
  · split <;> omega

theorem clampParam_eq (i : ParamId) (value : Nat) :
    clampParam i value = max paramTable[i].min (min paramTable[i].max value) :=
  clampNat_eq (paramTable_ordered i) value

theorem storeParam_same {p : PartId} {i : ParamId} {value : Nat} {s : State} (same : clampParam i value = s.param p i) :
    storeParam p i value s = s := if_pos same

theorem storeParam_new {p : PartId} {i : ParamId} {value : Nat} {s : State} (new : clampParam i value ≠ s.param p i) :
    storeParam p i value s = s.modPbu fun b =>
      { b with live := upd b.live p fun l => upd l i fun _ => clampParam i value,
               edits := upd b.edits p fun e => { e with edited := true, count := e.count + 1 } } := if_neg new

/-- The live values after one of them has changed. -/
theorem live_upd_get (live : Vector (Vector Nat 24) 4) (p q : PartId) (i k : ParamId) (x : Nat) :
    (upd live p fun l => upd l i fun _ => x)[q][k] = if q = p ∧ k = i then x else live[q][k] := by
  rw [upd_get]
  by_cases part : p = q
  · rw [if_pos part, upd_get, part]
    simp [eq_comm]
  · simp [part, Ne.symm part]

theorem storeParam_param (p q : PartId) (i k : ParamId) (value : Nat) (s : State) :
    (storeParam p i value s).param q k = if q = p ∧ k = i then clampParam i value else s.param q k := by
  by_cases same : clampParam i value = s.param p i
  · rw [storeParam_same same]
    split
    next here =>
      obtain ⟨rfl, rfl⟩ := here
      exact same.symm
    next => rfl
  · rw [storeParam_new same]
    exact live_upd_get ..

theorem storeParam_edits (p q : PartId) (i : ParamId) (value : Nat) (s : State) :
    (storeParam p i value s).pbu.edits[q] = if q = p ∧ clampParam i value ≠ s.param p i then
      { s.pbu.edits[p] with edited := true, count := s.pbu.edits[p].count + 1 } else s.pbu.edits[q] := by
  by_cases same : clampParam i value = s.param p i
  · simp [storeParam_same same, same]
  · rw [storeParam_new same, State.modPbu_pbu, upd_get]
    simp [same, eq_comm]

theorem storeParam_asked (p : PartId) (i : ParamId) (value : Nat) (kind tag : Byte) (s : State) :
    storeParam p i value (asked kind tag s) = asked kind tag (storeParam p i value s) := by
  by_cases same : clampParam i value = s.param p i
  · have sameAsked : clampParam i value = (asked kind tag s).param p i := same
    rw [storeParam_same same, storeParam_same sameAsked]
  · have newAsked : clampParam i value ≠ (asked kind tag s).param p i := same
    rw [storeParam_new same, storeParam_new newAsked]
    rfl

/-- A write hands an assignment change over exactly when VOICE_MODE or UNISON_COUNT gets a different value (R126). -/
theorem assignmentDiffers_storeParam (p : PartId) (i : ParamId) (value : Nat) (s : State) :
    assignmentDiffers s (storeParam p i value s) p = decide (clampParam i value ≠ s.param p i ∧ i.val ≤ 1) := by
  simp only [assignmentDiffers, storeParam_param, true_and]
  by_cases low : i.val ≤ 1
  · rcases Nat.le_one_iff_eq_zero_or_eq_one.mp low with mode | count
    · obtain rfl : i = pVoiceMode := Fin.ext mode
      simp [eq_comm]
    · obtain rfl : i = pUnisonCount := Fin.ext count
      simp [eq_comm]
  · have apart : pVoiceMode ≠ i ∧ pUnisonCount ≠ i := by simp [Fin.ext_iff]; omega
    simp [low, apart]

/-! ### What a write can change -/

/-- `t` differs from `s` at most in what SET_PARAM changes but for its notices: the voices and their outputs, the live
buffers, the edit records and the pickup states. -/
def ParameterOnly (s t : State) : Prop :=
  t = { s with
    vas := t.vas, cvo := t.cvo,
    pbu := { s.pbu with live := t.pbu.live, edits := t.pbu.edits, pickups := t.pbu.pickups } }

namespace ParameterOnly

theorem refl (s : State) : ParameterOnly s s := rfl

theorem trans {s t u : State} (h : ParameterOnly s t) (k : ParameterOnly t u) : ParameterOnly s u := by
  unfold ParameterOnly at *
  rw [k, h]

theorem foldl {α : Type} {f : State → α → State} (h : ∀ s a, ParameterOnly s (f s a)) (l : List α) (s : State) :
    ParameterOnly s (l.foldl f s) := by
  induction l generalizing s with
  | nil => exact .refl s
  | cons a l ih => exact (h s a).trans (ih _)

variable {s t : State}

theorem lnk (h : ParameterOnly s t) : t.lnk = s.lnk := (congrArg State.lnk h :)
theorem tun (h : ParameterOnly s t) : t.tun = s.tun := (congrArg State.tun h :)
theorem pns (h : ParameterOnly s t) : t.pns = s.pns := (congrArg State.pns h :)
theorem pmc (h : ParameterOnly s t) : t.pmc = s.pmc := (congrArg State.pmc h :)
theorem stu (h : ParameterOnly s t) : t.stu = s.stu := (congrArg State.stu h :)
theorem bindings (h : ParameterOnly s t) : t.pbu.bindings = s.pbu.bindings := (congrArg (·.pbu.bindings) h :)
theorem focus (h : ParameterOnly s t) : t.pbu.focus = s.pbu.focus := (congrArg (·.pbu.focus) h :)

end ParameterOnly

theorem storeParam_parameterOnly (p : PartId) (i : ParamId) (value : Nat) (s : State) :
    ParameterOnly s (storeParam p i value s) := by
  by_cases same : clampParam i value = s.param p i
  · rw [storeParam_same same]
    exact .refl s
  · rw [storeParam_new same]
    rfl

theorem storeParam_keeps (p : PartId) (i : ParamId) (value : Nat) (s : State) :
    (storeParam p i value s).vas = s.vas ∧ (storeParam p i value s).cvo = s.cvo ∧
      (storeParam p i value s).pbu.pickups = s.pbu.pickups := by
  by_cases same : clampParam i value = s.param p i
  · rw [storeParam_same same]
    exact ⟨rfl, rfl, rfl⟩
  · rw [storeParam_new same]
    exact ⟨rfl, rfl, rfl⟩

theorem withPickups_parameterOnly (chosen : ControlId → Bool) (s : State) :
    ParameterOnly s (withPickups chosen s) := rfl

/-! ### The silence of a part in RELEASE form (R44, R126) -/

@[simp] theorem releaseVoice_part_self (p : PartId) (v : VoiceId) (s : State) :
    (releaseVoice p v s).part p =
      { s.part p with active := (s.part p).active.filter (· ≠ v), free := (s.part p).free ++ [v] } := by
  simp [releaseVoice, becomeReleased, State.joinFree, State.leaveActive]

theorem releaseVoice_part_ne {p q : PartId} (other : q ≠ p) (v : VoiceId) (s : State) :
    (releaseVoice p v s).part q = s.part q := by
  simp [releaseVoice, becomeReleased, State.joinFree, State.leaveActive, State.modPart_part, Ne.symm other]

theorem releaseVoice_state (p : PartId) (v w : VoiceId) (s : State) :
    ((releaseVoice p v s).voice w).state = if w = v then .released else (s.voice w).state := by
  simp only [releaseVoice, becomeReleased, State.joinFree, State.leaveActive, State.modPart_voice, State.enter_voice,
    State.modVoice_voice]
  by_cases same : v = w
  · simp [same]
  · simp [same, Ne.symm same]

/-- The voices of a list released one after another. -/
def releaseAll (p : PartId) (l : List VoiceId) (s : State) : State := l.foldl (fun s v => releaseVoice p v s) s

@[simp] theorem releaseAll_nil (p : PartId) (s : State) : releaseAll p [] s = s := rfl
@[simp] theorem releaseAll_cons (p : PartId) (v : VoiceId) (l : List VoiceId) (s : State) :
    releaseAll p (v :: l) s = releaseAll p l (releaseVoice p v s) := rfl

theorem releaseAll_part_self (p : PartId) (l : List VoiceId) (s : State) :
    (releaseAll p l s).part p =
      { s.part p with active := (s.part p).active.filter (· ∉ l), free := (s.part p).free ++ l } := by
  induction l generalizing s with
  | nil =>
    have kept : (s.part p).active.filter (· ∉ []) = (s.part p).active :=
      List.filter_eq_self.mpr fun _ _ => decide_eq_true List.not_mem_nil
    rw [releaseAll_nil, kept, List.append_nil]
  | cons v l ih =>
    have filtered : ((s.part p).active.filter (· ≠ v)).filter (· ∉ l) = (s.part p).active.filter (· ∉ v :: l) := by
      rw [List.filter_filter]
      refine List.filter_congr fun w _ => Bool.eq_iff_iff.mpr ?_
      simp only [Bool.and_eq_true, decide_eq_true_eq, List.mem_cons, not_or, ne_eq, and_comm]
    rw [releaseAll_cons, ih, releaseVoice_part_self]
    simp only [filtered, List.append_assoc, List.singleton_append]

theorem releaseAll_part_ne {p q : PartId} (other : q ≠ p) (l : List VoiceId) (s : State) :
    (releaseAll p l s).part q = s.part q := by
  induction l generalizing s with
  | nil => rfl
  | cons v l ih => rw [releaseAll_cons, ih, releaseVoice_part_ne other]

theorem releaseAll_state (p : PartId) (l : List VoiceId) (w : VoiceId) (s : State) :
    ((releaseAll p l s).voice w).state = if w ∈ l then .released else (s.voice w).state := by
  induction l generalizing s with
  | nil => simp
  | cons v l ih =>
    rw [releaseAll_cons, ih, releaseVoice_state]
    by_cases later : w ∈ l
    · simp [later]
    · simp [later]

/-- Part p with its start record and held list dropped, and the sustained marks of its pending notes removed: what a
silence does before it takes the active voices (R44). -/
def unstruck (p : PartId) (s : State) : State :=
  let s := s.modPart p fun x => { x with start := none, held := [] }
  (s.pool p).foldl unmarkPending s

theorem foldl_unmarkPending_part (l : List VoiceId) (q : PartId) (s : State) :
    (l.foldl unmarkPending s).part q = s.part q := by
  induction l generalizing s with
  | nil => rfl
  | cons v l ih => exact ih (unmarkPending s v)

theorem unstruck_part (p q : PartId) (s : State) :
    (unstruck p s).part q = if p = q then { s.part p with start := none, held := [] } else s.part q :=
  (foldl_unmarkPending_part ..).trans (State.modPart_part ..)

theorem partSilence_release (p : PartId) (s : State) :
    partSilence .release p s = releaseAll p (s.part p).active (unstruck p s) := by
  have active : ((unstruck p s).part p).active = (s.part p).active := by rw [unstruck_part, if_pos rfl]
  rw [← active]
  rfl

theorem partSilence_release_part_self (p : PartId) (s : State) :
    (partSilence .release p s).part p =
      { s.part p with held := [], start := none, active := [], free := (s.part p).free ++ (s.part p).active } := by
  rw [partSilence_release, releaseAll_part_self, unstruck_part, if_pos rfl]
  simp

theorem partSilence_release_part_ne {p q : PartId} (other : q ≠ p) (s : State) :
    (partSilence .release p s).part q = s.part q := by
  rw [partSilence_release, releaseAll_part_ne other, unstruck_part, if_neg (Ne.symm other)]

theorem partSilence_release_state {p : PartId} {v : VoiceId} {s : State} (active : v ∈ (s.part p).active) :
    ((partSilence .release p s).voice v).state = .released := by
  rw [partSilence_release, releaseAll_state, if_pos active]

theorem partSilence_release_parameterOnly (p : PartId) (s : State) : ParameterOnly s (partSilence .release p s) := by
  have begun : ParameterOnly s (unstruck p s) :=
    ParameterOnly.trans (t := s.modPart p fun x => { x with start := none, held := [] }) rfl
      (.foldl (f := unmarkPending) (fun _ _ => rfl) _ _)
  rw [partSilence_release]
  exact begun.trans (.foldl (f := fun s v => releaseVoice p v s) (fun _ _ => rfl) _ _)

theorem unstruck_asked (p : PartId) (kind tag : Byte) (s : State) :
    unstruck p (asked kind tag s) = asked kind tag (unstruck p s) :=
  List.foldl_hom (asked kind tag) (g₁ := unmarkPending) (g₂ := unmarkPending) (l := s.pool p)
    (init := s.modPart p fun x => { x with start := none, held := [] }) fun _ _ => rfl

theorem releaseAll_asked (p : PartId) (l : List VoiceId) (kind tag : Byte) (s : State) :
    releaseAll p l (asked kind tag s) = asked kind tag (releaseAll p l s) :=
  List.foldl_hom (asked kind tag) (g₁ := fun s v => releaseVoice p v s) (g₂ := fun s v => releaseVoice p v s)
    fun _ _ => rfl

theorem partSilence_release_asked (p : PartId) (kind tag : Byte) (s : State) :
    partSilence .release p (asked kind tag s) = asked kind tag (partSilence .release p s) := by
  rw [partSilence_release, partSilence_release, unstruck_asked, releaseAll_asked, asked_part]

/-! ### Engaged parts and PART_SILENT (R49) -/

theorem engaged_iff (s : State) (p : PartId) : engaged s p = true ↔ PartEngaged s p := by
  simp [engaged, State.pool, allVoices, engages, sounding, Option.isSome_iff_ne_none, or_assoc]

theorem engaged_of_vas {s t : State} (voices : t.vas = s.vas) (p : PartId) : engaged t p = engaged s p := by
  unfold engaged State.pool State.part State.voice
  rw [voices]

theorem filter_allParts_eq (p : PartId) (b : PartId → Bool) :
    (allParts.filter fun q => decide (q = p) && b q) = if b p then [p] else [] := by
  have only : allParts.filter (fun q => decide (q = p)) = [p] := by revert p; decide
  simp only [Bool.and_comm (decide _), ← List.filter_filter, only, List.filter_cons, List.filter_nil]

/-- The decision of one part is the PART_SILENT that a statement spells for that part alone. -/
theorem silentDecision_eq (s : State) (p : PartId) (u : State) :
    silentDecision s p u = withSilence s (fun q => decide (q = p)) u := by
  have decided : (engaged s p && !engaged u p) = decide (PartEngaged s p ∧ ¬ PartEngaged u p) := by
    rw [Bool.eq_iff_iff]
    simp [← engaged_iff]
  rw [silentDecision, withSilence, filter_allParts_eq, decided]
  split <;> rfl

theorem silentDecision_same {s u : State} (voices : u.vas = s.vas) (p : PartId) : silentDecision s p u = u := by
  rw [silentDecision, engaged_of_vas voices, Bool.and_not_self]
  rfl

theorem silentDecision_statusOnly (s : State) (p : PartId) (u : State) : StatusOnly u (silentDecision s p u) :=
  .ite (offerNotice_statusOnly ..) (.refl u)

/-! ### A notice beside the rest of the state -/

/-- `g` reads and writes nothing that an offer of a notice does. -/
structure BesideStatus (g : State → State) : Prop where
  stu : ∀ s, (g s).stu = s.stu
  notices : ∀ s, (g s).lnk.notices = s.lnk.notices
  modStu : ∀ s f, g (s.modStu f) = (g s).modStu f
  takeNumber : ∀ s, g s.takeNumber = (g s).takeNumber
  queued : ∀ s n, g (s.modLnk fun l => { l with notices := l.notices ++ [(l.seq, n)] }) =
    (g s).modLnk fun l => { l with notices := l.notices ++ [(l.seq, n)] }

theorem asked_besideStatus (kind tag : Byte) : BesideStatus (asked kind tag) := by constructor <;> intros <;> rfl

theorem modPbu_besideStatus (f : Pbu → Pbu) : BesideStatus (·.modPbu f) := by constructor <;> intros <;> rfl

theorem modPbu_engaged (s : State) (f : Pbu → Pbu) (p : PartId) : engaged (s.modPbu f) p = engaged s p := rfl

/-- A loss once it is counted, with the loss of the COUNTER_HIGH that this may offer (R181, R201). -/
def lossCounted (n : Nat) (s : State) : State :=
  if (s.bump cNoticesLost).stu.counters[cNoticesLost] = counterThreshold &&
      !disabled (s.bump cNoticesLost).stu (.counterHigh cNoticesLost)
  then loseNotice n (s.bump cNoticesLost).takeNumber else s.bump cNoticesLost

theorem loseNotice_succ (n : Nat) (s : State) :
    loseNotice (n + 1) s =
      let t := lossCounted n s
      if t.stu.flags[fNoticeLost].isSet then t.putFlag fNoticeLost ⟨true, false⟩
      else loseNotice n (t.putFlag fNoticeLost ⟨true, false⟩).updateAlert.takeNumber := rfl

namespace BesideStatus

variable {g : State → State}

theorem bump (beside : BesideStatus g) (c : CounterId) (s : State) : g (s.bump c) = (g s).bump c := beside.modStu ..

theorem putFlag (beside : BesideStatus g) (f : FlagId) (x : Flag) (s : State) :
    g (s.putFlag f x) = (g s).putFlag f x := beside.modStu ..

theorem updateAlert (beside : BesideStatus g) (s : State) : g s.updateAlert = (g s).updateAlert := beside.modStu ..

theorem loseNotice (beside : BesideStatus g) (n : Nat) (s : State) :
    g (loseNotice n s) = Machine.loseNotice n (g s) := by
  induction n generalizing s with
  | zero => rfl
  | succ n ih =>
    have counted (s : State) : g (lossCounted n s) = lossCounted n (g s) := by
      rw [lossCounted, lossCounted, apply_ite g, ih, beside.takeNumber, ← beside.bump, beside.stu]
    rw [loseNotice_succ, loseNotice_succ, ← counted]
    dsimp only
    rw [apply_ite g, ih, beside.takeNumber, beside.updateAlert, beside.putFlag, beside.stu]

theorem offerNotice (beside : BesideStatus g) (n : Notice) (s : State) :
    g (offerNotice n s) = Machine.offerNotice n (g s) := by
  rw [Machine.offerNotice, Machine.offerNotice, apply_ite g, apply_ite g, beside.stu, beside.notices,
    beside.loseNotice, beside.takeNumber, beside.takeNumber, beside.queued]

theorem silentDecision (beside : BesideStatus g) {before before' : State} {p : PartId}
    (begun : engaged before' p = engaged before p) {s : State} (ended : engaged (g s) p = engaged s p) :
    g (silentDecision before p s) = Machine.silentDecision before' p (g s) := by
  rw [Machine.silentDecision, Machine.silentDecision, apply_ite g, begun, ended, beside.offerNotice]

end BesideStatus

theorem modPbu_silentDecision (f : Pbu → Pbu) (before : State) (p : PartId) (s : State) :
    (silentDecision before p s).modPbu f = silentDecision before p (s.modPbu f) :=
  (modPbu_besideStatus f).silentDecision rfl (modPbu_engaged s f p)

theorem asked_silentDecision (kind tag : Byte) (before : State) (p : PartId) (s : State) :
    asked kind tag (silentDecision before p s) = silentDecision (asked kind tag before) p (asked kind tag s) :=
  (asked_besideStatus kind tag).silentDecision (before' := asked kind tag before) rfl rfl

end Sys2Proof.Machine
end

section
/-!
The live parameters over the link (O43): what SET_PARAM leaves, put together from its write, its silence and its pickup
resets, and the replies to SET_PARAM (R124) and GET_PARAM (R125).
-/

namespace Sys2Proof.Machine

/-! ### A parameter written (R123, R126, R134) -/

theorem withPickups_silentDecision (chosen : ControlId → Bool) (before : State) (p : PartId) (s : State) :
    withPickups chosen (silentDecision before p s) = silentDecision before p (withPickups chosen s) := by
  have status := silentDecision_statusOnly before p s
  rw [withPickups, pickupsReset_congr chosen status.pbu status.pns, modPbu_silentDecision, withPickups]

theorem withPickups_asked (chosen : ControlId → Bool) (kind tag : Byte) (s : State) :
    withPickups chosen (asked kind tag s) = asked kind tag (withPickups chosen s) := by
  rw [withPickups, pickupsReset_congr chosen (s := s) (t := asked kind tag s) rfl rfl]
  rfl

/-- A value written, and its part silenced where the write changes the assignment, but for the PART_SILENT. -/
def storedAndSilenced (p : PartId) (i : ParamId) (value : Nat) (s : State) : State :=
  if clampParam i value ≠ s.param p i ∧ i.val ≤ 1 then partSilence .release p (storeParam p i value s)
  else storeParam p i value s

theorem storedAndSilenced_parameterOnly (p : PartId) (i : ParamId) (value : Nat) (s : State) :
    ParameterOnly s (storedAndSilenced p i value s) := by
  unfold storedAndSilenced
  split
  · exact (storeParam_parameterOnly ..).trans (partSilence_release_parameterOnly ..)
  · exact storeParam_parameterOnly ..

theorem storedAndSilenced_pbu (p : PartId) (i : ParamId) (value : Nat) (s : State) :
    (storedAndSilenced p i value s).pbu = (storeParam p i value s).pbu := by
  unfold storedAndSilenced
  split
  · exact (partSilence_playOnly ..).pbu
  · rfl

theorem storedAndSilenced_param (p q : PartId) (i k : ParamId) (value : Nat) (s : State) :
    (storedAndSilenced p i value s).param q k = if q = p ∧ k = i then clampParam i value else s.param q k := by
  rw [State.param, storedAndSilenced_pbu, ← State.param, storeParam_param]

theorem storedAndSilenced_asked (p : PartId) (i : ParamId) (value : Nat) (kind tag : Byte) (s : State) :
    storedAndSilenced p i value (asked kind tag s) = asked kind tag (storedAndSilenced p i value s) := by
  rw [storedAndSilenced, storeParam_asked, partSilence_release_asked, ← apply_ite (asked kind tag)]
  rfl

/-- A write with its assignment change is the write, the silence and the part's PART_SILENT decision. -/
theorem writeParam_eq (p : PartId) (i : ParamId) (value : Nat) (s : State) :
    writeParam p i value s = silentDecision s p (storedAndSilenced p i value s) := by
  obtain ⟨voices, -, -⟩ := storeParam_keeps p i value s
  rw [writeParam, handAssignment, assignmentDiffers_storeParam, storedAndSilenced]
  by_cases change : clampParam i value ≠ s.param p i ∧ i.val ≤ 1
  · rw [if_pos (decide_eq_true change), if_pos change, assignmentChange, silentDecision, engaged_of_vas voices]
    rfl
  · rw [if_neg (by simpa using change), if_neg change, silentDecision_same voices]

/-- The controls whose binding writes parameter i of part p (R134). -/
def boundTo (p : PartId) (i : ParamId) (s : State) (c : ControlId) : Bool :=
  decide (boundPart s s.pbu.bindings[c] = some p) && decide (s.pbu.bindings[c].index = i)

theorem boundTo_iff {p : PartId} {i : ParamId} {s : State} {c : ControlId} :
    boundTo p i s c = true ↔ (s.pbu.bindings[c].target = .part p ∨
      (s.pbu.bindings[c].target = .focus ∧ s.pbu.focus = p)) ∧ s.pbu.bindings[c].index = i := by
  simp [boundTo, boundPart_eq_some]

/-- What SET_PARAM leaves before the part's PART_SILENT decision. -/
def parameterSet (p : PartId) (i : ParamId) (value : Nat) (s : State) : State :=
  withPickups (boundTo p i s) (storedAndSilenced p i value s)

/-- The part's PART_SILENT decision can follow the pickup resets: neither reads what the other writes. -/
theorem resetPickups_writeParam (p : PartId) (i : ParamId) (value : Nat) (s : State) :
    (let t := writeParam p i value s
     resetPickups (fun b => decide (boundPart t b = some p) && decide (b.index = i)) t) =
      silentDecision s p (parameterSet p i value s) := by
  have status := silentDecision_statusOnly s p (storedAndSilenced p i value s)
  have frame := storedAndSilenced_parameterOnly p i value s
  have chosen : boundTo p i (writeParam p i value s) = boundTo p i s := by
    funext c
    rw [Bool.eq_iff_iff, boundTo_iff, boundTo_iff]
    simp only [writeParam_eq, status.pbu, frame.bindings, frame.focus]
  refine (resetPickups_eq ..).trans ?_
  change withPickups (boundTo p i (writeParam p i value s)) (writeParam p i value s) = _
  rw [chosen, writeParam_eq, withPickups_silentDecision, parameterSet]

theorem parameterSet_asked (p : PartId) (i : ParamId) (value : Nat) (kind tag : Byte) (s : State) :
    parameterSet p i value (asked kind tag s) = asked kind tag (parameterSet p i value s) := by
  rw [parameterSet, storedAndSilenced_asked, withPickups_asked]
  rfl

theorem parameterSet_parameterOnly (p : PartId) (i : ParamId) (value : Nat) (s : State) :
    ParameterOnly s (parameterSet p i value s) :=
  (storedAndSilenced_parameterOnly p i value s).trans (withPickups_parameterOnly ..)

theorem parameterSet_param (p q : PartId) (i k : ParamId) (value : Nat) (s : State) :
    (parameterSet p i value s).param q k = if q = p ∧ k = i then clampParam i value else s.param q k := by
  rw [parameterSet, withPickups_param, storedAndSilenced_param]

theorem parameterSet_edits (p q : PartId) (i : ParamId) (value : Nat) (s : State) :
    (parameterSet p i value s).pbu.edits[q] = if q = p ∧ clampParam i value ≠ s.param p i then
      { s.pbu.edits[p] with edited := true, count := s.pbu.edits[p].count + 1 } else s.pbu.edits[q] := by
  simp only [parameterSet, withPickups_edits, storedAndSilenced_pbu, storeParam_edits]

theorem parameterSet_pickups (p : PartId) (i : ParamId) (value : Nat) (s : State) (c : ControlId) :
    (parameterSet p i value s).pbu.pickups[c] =
      if (s.pbu.bindings[c].target = .part p ∨ (s.pbu.bindings[c].target = .focus ∧ s.pbu.focus = p)) ∧
          s.pbu.bindings[c].index = i then
        warrantedPickup s.pbu.bindings[c] s.pns.filters[c].filtered (clampParam i value)
      else s.pbu.pickups[c] := by
  have frame := storedAndSilenced_parameterOnly p i value s
  obtain ⟨-, -, before⟩ := storeParam_keeps p i value s
  simp only [parameterSet, withPickups_pickups, pickupsReset_get, boundTo_iff]
  split
  next bound =>
    have part : boundPart (storedAndSilenced p i value s) s.pbu.bindings[c] = some p := by
      rw [boundPart_eq_some, frame.focus]
      exact bound.1
    simp only [resetPickupState_eq, frame.bindings, frame.pns, warrantedIn, part, Option.elim_some,
      storedAndSilenced_param, bound.2, and_self, if_true]
  next => simp only [storedAndSilenced_pbu, before]

/-- A write that changes no assignment leaves the voices and outputs. -/
theorem parameterSet_voices {p : PartId} {i : ParamId} {value : Nat} {s : State}
    (unchanged : ¬ (clampParam i value ≠ s.param p i ∧ i.val ≤ 1)) :
    (parameterSet p i value s).vas = s.vas ∧ (parameterSet p i value s).cvo = s.cvo := by
  have stored : storedAndSilenced p i value s = storeParam p i value s := if_neg unchanged
  obtain ⟨vas, cvo, -⟩ := storeParam_keeps p i value s
  rw [parameterSet, stored]
  exact ⟨(withPickups_vas ..).trans vas, (withPickups_cvo ..).trans cvo⟩

/-- A write that changes the assignment silences its part, as it stood before the write. -/
theorem parameterSet_silenced {p : PartId} {i : ParamId} {value : Nat} {s : State}
    (changed : clampParam i value ≠ s.param p i ∧ i.val ≤ 1) :
    let t := parameterSet p i value s
    t.part p = { s.part p with held := [], start := none, active := [],
                               free := (s.part p).free ++ (s.part p).active } ∧
    (∀ q, q ≠ p → t.part q = s.part q) ∧ ∀ v ∈ (s.part p).active, (t.voice v).state = .released := by
  have silenced : storedAndSilenced p i value s = partSilence .release p (storeParam p i value s) := if_pos changed
  have kept (q) : (storeParam p i value s).part q = s.part q := by
    rw [State.part, (storeParam_keeps p i value s).1, ← State.part]
  simp only [parameterSet, silenced, withPickups_part, withPickups_voice, ← kept p]
  exact ⟨partSilence_release_part_self .., fun q other => (partSilence_release_part_ne other _).trans (kept q),
    fun v active => partSilence_release_state active⟩

/-! ### SET_PARAM (R124) -/

/-- A state of which only the notices, flags and counters changed, with these put back. -/
theorem StatusOnly.restored {s t : State} (h : StatusOnly s t) : { t with lnk := s.lnk, stu := s.stu } = s := by
  obtain ⟨_, _, _, _, _, _, _, _, _, _, _, _⟩ := t
  obtain ⟨rfl, rfl, rfl, rfl, rfl, rfl, rfl, rfl, rfl, rfl, _⟩ := h
  rfl

theorem setParamRequest_high {part index : Byte} (high : 3 < part.toNat ∨ 23 < index.toNat) (value : BitVec 16)
    (s : State) : setParamRequest part index value s = refuse .badValue s := by
  rcases high with high | high
  · have unspelt : part? part = none := ident?_none high
    simp only [setParamRequest, unspelt]
  · have unspelt : param? index = none := ident?_none high
    simp only [setParamRequest, unspelt]
    cases part? part <;> rfl

/-- What SET_PARAM leaves but for its reply. -/
def parameterSetAndTold (p : PartId) (i : ParamId) (value : Nat) (s : State) : State :=
  silentDecision s p (parameterSet p i value s)

theorem parameterSetAndTold_asked (p : PartId) (i : ParamId) (value : Nat) (kind tag : Byte) (s : State) :
    parameterSetAndTold p i value (asked kind tag s) = asked kind tag (parameterSetAndTold p i value s) := by
  rw [parameterSetAndTold, parameterSet_asked, ← asked_silentDecision, parameterSetAndTold]

theorem parameterSetAndTold_param (p q : PartId) (i k : ParamId) (value : Nat) (s : State) :
    (parameterSetAndTold p i value s).param q k = if q = p ∧ k = i then clampParam i value else s.param q k := by
  rw [← parameterSet_param, State.param, parameterSetAndTold, (silentDecision_statusOnly ..).pbu]
  rfl

theorem setParamRequest_byte (p : PartId) (i : ParamId) (value : BitVec 16) (s : State) :
    setParamRequest (byte p) (byte i) value s =
      placeReply .ok ([byte p, byte i] ++ word (clampParam i value.toNat)) (parameterSetAndTold p i value.toNat s) := by
  have part : part? (byte p) = some p := ident?_byte (by decide) p
  have index : param? (byte i) = some i := ident?_byte (by decide) i
  have stored : (parameterSetAndTold p i value.toNat s).param p i = clampParam i value.toNat := by
    rw [parameterSetAndTold_param, if_pos ⟨rfl, rfl⟩]
  simp only [setParamRequest, part, index]
  rw [resetPickups_writeParam, ← parameterSetAndTold, stored]

theorem exec_setParam {s : State} (h : Ready s) (tag part index : Byte) (value : BitVec 16) :
    exec (.setParam tag part index value) s =
      .next (arbitrate (setParamRequest part index value (asked 0x1A tag s))) :=
  arrive_request (i := .setParam tag part index value) (f := ⟨0x1A, tag, part :: index :: bytes16 value⟩) h rfl
    (by simp [maxPayload, bytes16])
    (congrArg (fun w => FrameMeaning.message (.setParam tag part index w)) (joinBytes_halves value)) rfl

theorem exec_setParam_high {s : State} (h : Ready s) (tag : Byte) {part index : Byte}
    (high : 3 < part.toNat ∨ 23 < index.toNat) (value : BitVec 16) :
    exec (.setParam tag part index value) s = .next (answered 0x1A tag .badValue [] s) := by
  rw [exec_setParam h, setParamRequest_high high, arbitrate_refuse_asked (by decide)]

theorem exec_setParam_byte {s : State} (h : Ready s) (tag : Byte) (p : PartId) (i : ParamId) (value : BitVec 16) :
    exec (.setParam tag (byte p) (byte i) value) s = .next (answered 0x1A tag .ok
      ([byte p, byte i] ++ word (clampParam i value.toNat)) (parameterSetAndTold p i value.toNat s)) := by
  rw [exec_setParam h, setParamRequest_byte, parameterSetAndTold_asked, arbitrate_placeReply_asked (by decide)]

/-! ### GET_PARAM (R125) -/

theorem getParamRequest_high {part index : Byte} (high : 3 < part.toNat ∨ 23 < index.toNat) (s : State) :
    getParamRequest part index s = refuse .badValue s := by
  rcases high with high | high
  · have unspelt : part? part = none := ident?_none high
    simp only [getParamRequest, unspelt]
  · have unspelt : param? index = none := ident?_none high
    simp only [getParamRequest, unspelt]
    cases part? part <;> rfl

/-- The slot field of a GET_PARAM reply: FFFFh for NONE. -/
def slotField (slot : Option SlotId) : List Byte := word (slot.elim 0xFFFF (·.val))

theorem getParamRequest_byte (p : PartId) (i : ParamId) (s : State) :
    getParamRequest (byte p) (byte i) s =
      placeReply .ok ([byte p, byte i] ++ word (s.param p i) ++ [flagByte s.pbu.edits[p].edited] ++
        bytes16 s.pbu.edits[p].count ++ slotField s.pbu.edits[p].slot) s := by
  have part : part? (byte p) = some p := ident?_byte (by decide) p
  have index : param? (byte i) = some i := ident?_byte (by decide) i
  simp only [getParamRequest, part, index]
  cases s.pbu.edits[p].slot <;> rfl

theorem exec_getParam {s : State} (h : Ready s) (tag part index : Byte) :
    exec (.getParam tag part index) s = .next (arbitrate (getParamRequest part index (asked 0x1B tag s))) :=
  arrive_request (i := .getParam tag part index) (f := ⟨0x1B, tag, [part, index]⟩) h rfl (by simp [maxPayload]) rfl rfl

theorem exec_getParam_high {s : State} (h : Ready s) (tag : Byte) {part index : Byte}
    (high : 3 < part.toNat ∨ 23 < index.toNat) :
    exec (.getParam tag part index) s = .next (answered 0x1B tag .badValue [] s) := by
  rw [exec_getParam h, getParamRequest_high high, arbitrate_refuse_asked (by decide)]

theorem exec_getParam_byte {s : State} (h : Ready s) (tag : Byte) (p : PartId) (i : ParamId) :
    exec (.getParam tag (byte p) (byte i)) s = .next (answered 0x1B tag .ok
      ([byte p, byte i] ++ word (s.param p i) ++ [flagByte s.pbu.edits[p].edited] ++
        bytes16 s.pbu.edits[p].count ++ slotField s.pbu.edits[p].slot) s) := by
  rw [exec_getParam h, getParamRequest_byte, arbitrate_placeReply_asked (by decide)]
  rfl

/-- Settles O43: both requests by whether their fields spell a part and a parameter. What SET_PARAM leaves is read off
the state before the PART_SILENT decision, which changes the link's notices and the Status Unit alone. -/
theorem parametersAreWrittenAndRead : Obligations.ParametersAreWrittenAndRead := by
  intro tag part index value s h
  refine ⟨fun high => ⟨exec_setParam_high h tag high value, exec_getParam_high h tag high⟩, ?_⟩
  rintro p i rfl rfl
  refine ⟨(exec_getParam_byte h tag p i).trans ?get, ?set⟩
  case get => cases s.pbu.edits[p].slot <;> rfl
  have frame := parameterSet_parameterOnly p i value.toNat s
  have status : StatusOnly _ (parameterSetAndTold p i value.toNat s) := silentDecision_statusOnly ..
  rw [← clampParam_eq]
  refine ⟨parameterSetAndTold p i value.toNat s, ?reply, ?param, ?edits, ?bindings, ?focus, ?pickups, ?pmc, ?pns, ?tun,
    ?unchanged, ?changed, ?told⟩
  case reply => exact exec_setParam_byte h tag p i value
  case param => exact fun q k => parameterSetAndTold_param ..
  case edits => exact fun q => status.pbu ▸ parameterSet_edits p q i value.toNat s
  case bindings => exact status.pbu ▸ frame.bindings
  case focus => exact status.pbu ▸ frame.focus
  case pickups => exact fun c => status.pbu ▸ parameterSet_pickups p i value.toNat s c
  case pmc => exact status.pmc.trans frame.pmc
  case pns => exact status.pns.trans frame.pns
  case tun => exact status.tun.trans frame.tun
  case unchanged =>
    intro unchanged
    obtain ⟨vas, cvo⟩ := parameterSet_voices unchanged
    rw [parameterSetAndTold, silentDecision_same vas]
    exact ⟨vas, cvo, frame.stu, congrArg Lnk.notices frame.lnk⟩
  case changed =>
    intro differs low
    have silenced := parameterSet_silenced ⟨differs, low⟩
    simpa only [State.part, State.voice, status.vas] using silenced
  case told =>
    rw [← frame.lnk, ← frame.stu, status.restored, ← silentDecision_eq]
    rfl

end Sys2Proof.Machine
end

section
/-!
The receiving link over its table (O4, R169) and the global settings read over the link (O15, R186).
-/

namespace Sys2Proof.Machine

/-! ### The frame receiver, state by state (R169) -/

section
variable {s : State} (b : Byte)

theorem receiveByte_hunt (rx : s.lnk.rx = .hunt) :
    receiveByte b s = if b = syncByte then assemble .len s else s := by
  simp only [receiveByte, rx]

theorem receiveByte_len (rx : s.lnk.rx = .len) :
    receiveByte b s = if b.toNat ≤ maxPayload then assemble (.kind b) s else discardFrame s := by
  simp only [receiveByte, rx]

theorem receiveByte_kind {len : Byte} (rx : s.lnk.rx = .kind len) : receiveByte b s = assemble (.tag len b) s := by
  simp only [receiveByte, rx]

theorem receiveByte_tag {len kind : Byte} (rx : s.lnk.rx = .tag len kind) :
    receiveByte b s = assemble (if len = 0 then .check len kind b [] else .payload len kind b []) s := by
  simp only [receiveByte, rx]

theorem receiveByte_payload {len kind tag : Byte} {got : List Byte} (rx : s.lnk.rx = .payload len kind tag got) :
    receiveByte b s = assemble (if got.length + 1 = len.toNat then .check len kind tag (got ++ [b])
      else .payload len kind tag (got ++ [b])) s := by
  simp only [receiveByte, rx, List.length_append, List.length_singleton]

theorem receiveByte_check {len kind tag : Byte} {got : List Byte} (rx : s.lnk.rx = .check len kind tag got) :
    receiveByte b s =
      if b = crc8 (len :: kind :: tag :: got) then offerFrame ⟨kind, tag, got⟩ (hunt s) else discardFrame s := by
  simp only [receiveByte, rx]

/-- Outside a reset the receiver acts on a byte, and then the arbiter decides. -/
theorem exec_receivedByte (awake : linkAwake s = true) :
    exec (.receivedByte b) s = .next (arbitrate (receiveByte b s)) :=
  congrArg Host.Outcome.next (if_pos awake)

/-- A byte on which the receiver decides between two courses. -/
theorem exec_receivedByte_ite (awake : linkAwake s = true) {c : Prop} [Decidable c] {t u : State}
    (row : receiveByte b s = if c then t else u) :
    exec (.receivedByte b) s = if c then .next (arbitrate t) else .next (arbitrate u) := by
  rw [exec_receivedByte b awake, row]
  exact apply_ite (fun x => Host.Outcome.next (arbitrate x)) c t u

end

/-- Settles O4: one row of the receiver's table for each of its states. -/
theorem receiverFollowsItsTable : Obligations.ReceiverFollowsItsTable := by
  refine ⟨rfl, fun b s awake => ⟨?hunt, ?len, ?kind, ?tag, ?payload, ?check⟩⟩
  case hunt => exact fun rx => exec_receivedByte_ite b awake (receiveByte_hunt b rx)
  case len => exact fun rx => exec_receivedByte_ite b awake (receiveByte_len b rx)
  case kind =>
    intro len rx
    rw [exec_receivedByte b awake, receiveByte_kind b rx]
    rfl
  case tag =>
    intro len kind rx
    rw [exec_receivedByte b awake, receiveByte_tag b rx]
    rfl
  case payload =>
    intro len kind tag got rx
    rw [exec_receivedByte b awake, receiveByte_payload b rx]
    rfl
  case check => exact fun len kind tag got rx => exec_receivedByte_ite b awake (receiveByte_check b rx)

/-! ### GET_GLOBAL (R186) -/

theorem globalField_high {item : Byte} (high : 6 < item.toNat) (s : State) : globalField s item = none := by
  obtain ⟨n, beyond⟩ : ∃ n, item.toNat = n + 7 := Nat.exists_eq_add_of_le' high
  simp only [globalField, beyond]

@[simp] theorem globalField_asked (kind tag : Byte) (s : State) (item : Byte) :
    globalField (asked kind tag s) item = globalField s item := rfl

theorem exec_getGlobal {s : State} (h : Ready s) (tag item : Byte) :
    exec (.getGlobal tag item) s = .next (arbitrate (replyGlobal item (asked 0x13 tag s))) :=
  arrive_request (i := .getGlobal tag item) (f := ⟨0x13, tag, [item]⟩) h rfl (by simp [maxPayload]) rfl rfl

theorem exec_getGlobal_high {s : State} (h : Ready s) (tag : Byte) {item : Byte} (high : 6 < item.toNat) :
    exec (.getGlobal tag item) s = .next (answered 0x13 tag .badValue [] s) := by
  rw [exec_getGlobal h, replyGlobal, globalField_high high]
  exact congrArg Host.Outcome.next (arbitrate_refuse_asked (by decide) ..)

theorem exec_getGlobal_stored {s : State} (h : Ready s) (tag : Byte) {item : Byte} {field : List Byte}
    (stored : globalField s item = some field) :
    exec (.getGlobal tag item) s = .next (answered 0x13 tag .ok (item :: field) s) := by
  rw [exec_getGlobal h, replyGlobal, globalField_asked, stored]
  exact congrArg Host.Outcome.next (arbitrate_placeReply_asked (by decide) ..)

/-- Settles O15: each of the seven items is read off the block that stores it, and there is no other item. -/
theorem getGlobalReports : Obligations.GetGlobalReports := by
  intro tag item s h
  refine ⟨?masterTune, ?gateGap, ?tailQuench, ?scanPeriod, ?settleTime, ?interval, ?focus, exec_getGlobal_high h tag⟩
  case masterTune | gateGap | tailQuench | scanPeriod | settleTime | interval | focus =>
    rintro rfl
    exact exec_getGlobal_stored h tag rfl

end Sys2Proof.Machine
end

section
/-!
The fault flags and the masks over the link (O51): the flags as a two-byte field, the ALERT line of R194, and the replies
to GET_FAULTS (R192) and SET_MASKS (R195).
-/

namespace Sys2Proof.Machine

/-! ### One bit of every flag (R206) -/

/-- A mask has no bit beyond the truth values it is made of. -/
theorem maskOf_lt (bits : List Bool) : maskOf bits < 2 ^ bits.length := by
  induction bits with
  | nil => decide
  | cons b bits ih =>
    have := b.toNat_lt
    rw [maskOf_cons, List.length_cons, Nat.pow_succ]
    omega

/-- One bit of every flag as a number, flag n in bit n. -/
def flagWord (u : Stu) (f : Flag → Bool) : BitVec 16 := BitVec.ofNat 16 (maskOf (u.flags.toList.map f))

theorem flagBits_eq (u : Stu) (f : Flag → Bool) : flagBits u f = bytes16 (flagWord u f) := rfl

theorem flagWord_getLsbD (u : Stu) (f : Flag → Bool) (n : FlagId) : (flagWord u f).getLsbD n.val = f u.flags[n] := by
  have inside : n.val < 16 := by omega
  rw [flagWord, BitVec.getLsbD_ofNat, maskOf_testBit]
  simp [inside]

theorem flagWord_lt (u : Stu) (f : Flag → Bool) : (flagWord u f).toNat < 2048 := by
  have bound := maskOf_lt (u.flags.toList.map f)
  rw [List.length_map, Vector.length_toList] at bound
  rw [flagWord, BitVec.toNat_ofNat]
  omega

/-! ### ALERT (R194) -/

theorem alertLevel_iff (u : Stu) :
    alertLevel u = true ↔ ∃ f : FlagId, u.flags[f].isSet = true ∧ u.flagMask.getLsbD f.val = false ∧
      u.categoryMask.getLsbD flagCategory[f].val = false := by
  simp [alertLevel, and_assoc]

/-- With no flag set ALERT is negated, whatever the masks. -/
theorem alertLevel_clear {u : Stu} (clear : ∀ f : FlagId, u.flags[f].isSet = false) : alertLevel u = false := by
  rw [← Bool.not_eq_true, alertLevel_iff]
  rintro ⟨f, isSet, -⟩
  exact Bool.false_ne_true ((clear f).symm.trans isSet)

/-! ### GET_FAULTS (R192) -/

theorem clearFlags_eq (s : State) :
    clearFlags s = s.modStu fun u => { u with flags := Vector.replicate 11 ⟨false, false⟩, alert := false } := by
  have negated : alertLevel { s.stu with flags := Vector.replicate 11 ⟨false, false⟩ } = false :=
    alertLevel_clear fun f => by simp
  simp only [clearFlags, State.updateAlert, State.modStu, negated]

theorem clearFlags_asked (kind tag : Byte) (s : State) :
    clearFlags (asked kind tag s) = asked kind tag (clearFlags s) := rfl

/-- The fields of a GET_FAULTS reply before ALERT. -/
def faultFields (u : Stu) : List Byte := flagBits u Flag.isSet ++ flagBits u Flag.testMark ++ maskFields u

theorem getFaultsRequest_high {clear : Byte} (high : 1 < clear.toNat) (s : State) :
    getFaultsRequest clear s = refuse .badValue s := by
  simp only [getFaultsRequest, bit?_high high]

theorem getFaultsRequest_keep (s : State) :
    getFaultsRequest 0 s = placeReply .ok (faultFields s.stu ++ [flagByte s.stu.alert]) s := rfl

theorem getFaultsRequest_clear (s : State) :
    getFaultsRequest 1 s = placeReply .ok (faultFields s.stu ++ [0]) (clearFlags s) := by
  have negated : (clearFlags s).stu.alert = false := by rw [clearFlags_eq]; rfl
  change placeReply .ok (faultFields s.stu ++ [flagByte (clearFlags s).stu.alert]) (clearFlags s) = _
  rw [negated]
  rfl

theorem exec_getFaults {s : State} (h : Ready s) (tag clear : Byte) :
    exec (.getFaults tag clear) s = .next (arbitrate (getFaultsRequest clear (asked 0x38 tag s))) :=
  arrive_request (i := .getFaults tag clear) (f := ⟨0x38, tag, [clear]⟩) h rfl (by simp [maxPayload]) rfl rfl

theorem exec_getFaults_high {s : State} (h : Ready s) (tag : Byte) {clear : Byte} (high : 1 < clear.toNat) :
    exec (.getFaults tag clear) s = .next (answered 0x38 tag .badValue [] s) := by
  rw [exec_getFaults h, getFaultsRequest_high high, arbitrate_refuse_asked (by decide)]

theorem exec_getFaults_keep {s : State} (h : Ready s) (tag : Byte) :
    exec (.getFaults tag 0) s = .next (answered 0x38 tag .ok (faultFields s.stu ++ [flagByte s.stu.alert]) s) := by
  rw [exec_getFaults h, getFaultsRequest_keep, arbitrate_placeReply_asked (by decide)]
  rfl

theorem exec_getFaults_clear {s : State} (h : Ready s) (tag : Byte) :
    exec (.getFaults tag 1) s = .next (answered 0x38 tag .ok (faultFields s.stu ++ [0]) (clearFlags s)) := by
  rw [exec_getFaults h, getFaultsRequest_clear, clearFlags_asked, arbitrate_placeReply_asked (by decide)]
  rfl

/-! ### SET_MASKS (R195) -/

/-- The Status Unit with its three masks replaced. -/
def withMasks (flagMask : BitVec 16) (categoryMask noticeMask : Byte) (u : Stu) : Stu :=
  { u with flagMask := flagMask.setWidth 11, categoryMask := categoryMask.setWidth 4,
           noticeMask := noticeMask.setWidth 5 }

/-- The masks stored and ALERT brought up to date. -/
def masksStored (flagMask : BitVec 16) (categoryMask noticeMask : Byte) (s : State) : State :=
  s.modStu fun u =>
    { withMasks flagMask categoryMask noticeMask u with
      alert := alertLevel (withMasks flagMask categoryMask noticeMask u) }

theorem masksStored_asked (flagMask : BitVec 16) (categoryMask noticeMask kind tag : Byte) (s : State) :
    masksStored flagMask categoryMask noticeMask (asked kind tag s) =
      asked kind tag (masksStored flagMask categoryMask noticeMask s) := rfl

section
variable {flagMask : BitVec 16} {categoryMask noticeMask : Byte}

/-- ALERT under the masks of the request: a mask in range loses no bit when it is stored. -/
theorem alertLevel_withMasks (u : Stu) :
    alertLevel (withMasks flagMask categoryMask noticeMask u) = true ↔
      ∃ f : FlagId, u.flags[f].isSet = true ∧ flagMask.getLsbD f.val = false ∧
        categoryMask.getLsbD flagCategory[f].val = false := by
  simp [alertLevel_iff, withMasks]

/-- The masks are reported as they were sent. -/
theorem maskFields_withMasks (flags : flagMask.toNat < 2048) (categories : categoryMask.toNat < 16)
    (notices : noticeMask.toNat < 32) (u : Stu) :
    maskFields (withMasks flagMask categoryMask noticeMask u) = bytes16 flagMask ++ [categoryMask, noticeMask] := by
  have flagField : BitVec.ofNat 16 (flagMask.setWidth 11).toNat = flagMask := by bv_omega
  have categoryField : BitVec.ofNat 8 (categoryMask.setWidth 4).toNat = categoryMask := by bv_omega
  have noticeField : BitVec.ofNat 8 (noticeMask.setWidth 5).toNat = noticeMask := by bv_omega
  simp only [maskFields, withMasks, word, byte, flagField, categoryField, noticeField]

theorem setMasksRequest_high
    (high : 2048 ≤ flagMask.toNat ∨ 16 ≤ categoryMask.toNat ∨ 32 ≤ noticeMask.toNat) (s : State) :
    setMasksRequest flagMask categoryMask noticeMask s = refuse .badValue s :=
  if_pos (by simpa [or_assoc] using high)

theorem setMasksRequest_low (flags : flagMask.toNat < 2048) (categories : categoryMask.toNat < 16)
    (notices : noticeMask.toNat < 32) (s : State) :
    setMasksRequest flagMask categoryMask noticeMask s =
      placeReply .ok (bytes16 flagMask ++ [categoryMask, noticeMask] ++
        [flagByte (alertLevel (withMasks flagMask categoryMask noticeMask s.stu))])
        (masksStored flagMask categoryMask noticeMask s) := by
  rw [← maskFields_withMasks flags categories notices s.stu]
  exact if_neg (by simp; omega)

theorem exec_setMasks {s : State} (h : Ready s) (tag : Byte) (flagMask : BitVec 16) (categoryMask noticeMask : Byte) :
    exec (.setMasks tag flagMask categoryMask noticeMask) s =
      .next (arbitrate (setMasksRequest flagMask categoryMask noticeMask (asked 0x39 tag s))) :=
  arrive_request (i := .setMasks tag flagMask categoryMask noticeMask)
    (f := ⟨0x39, tag, bytes16 flagMask ++ [categoryMask, noticeMask]⟩) h rfl (by simp [maxPayload, bytes16])
    (congrArg (fun w => FrameMeaning.message (.setMasks tag w categoryMask noticeMask)) (joinBytes_halves flagMask)) rfl

theorem exec_setMasks_high {s : State} (h : Ready s) (tag : Byte)
    (high : 2048 ≤ flagMask.toNat ∨ 16 ≤ categoryMask.toNat ∨ 32 ≤ noticeMask.toNat) :
    exec (.setMasks tag flagMask categoryMask noticeMask) s = .next (answered 0x39 tag .badValue [] s) := by
  rw [exec_setMasks h, setMasksRequest_high high, arbitrate_refuse_asked (by decide)]

theorem exec_setMasks_low {s : State} (h : Ready s) (tag : Byte) (flags : flagMask.toNat < 2048)
    (categories : categoryMask.toNat < 16) (notices : noticeMask.toNat < 32) :
    exec (.setMasks tag flagMask categoryMask noticeMask) s = .next (answered 0x39 tag .ok
      (bytes16 flagMask ++ [categoryMask, noticeMask] ++
        [flagByte (alertLevel (withMasks flagMask categoryMask noticeMask s.stu))])
      (masksStored flagMask categoryMask noticeMask s)) := by
  rw [exec_setMasks h, setMasksRequest_low flags categories notices, masksStored_asked,
    arbitrate_placeReply_asked (by decide)]
  rfl

end

/-- Settles O51: GET_FAULTS by its clear field, the flags and marks read as words; SET_MASKS by whether its masks are in
range, ALERT then being its level under the masks of the request. -/
theorem faultsAndMasksAreRequested : Obligations.FaultsAndMasksAreRequested := by
  intro tag clear flagMask categoryMask noticeMask s h
  refine ⟨exec_getFaults_high h tag, ?get, exec_setMasks_high h tag, ?set⟩
  case get =>
    refine fun _ => ⟨flagWord s.stu Flag.isSet, flagWord s.stu Flag.testMark,
      fun f => ⟨flagWord_getLsbD .., flagWord_getLsbD ..⟩, flagWord_lt .., flagWord_lt .., ?keep, ?clear⟩
    case keep =>
      rintro rfl
      rw [exec_getFaults_keep h]
      simp only [faultFields, flagBits_eq, maskFields, flagByte, List.append_assoc]
    case clear =>
      rintro rfl
      rw [exec_getFaults_clear h, clearFlags_eq]
      simp only [faultFields, flagBits_eq, maskFields, List.append_assoc]
  case set =>
    intro flags categories notices
    refine ⟨alertLevel (withMasks flagMask categoryMask noticeMask s.stu), alertLevel_withMasks s.stu, ?_⟩
    rw [exec_setMasks_low h tag flags categories notices, List.append_assoc]
    rfl

end Sys2Proof.Machine
end

section
/-!
The monitor self-tests and the counters over the link (O52): a test armed, or made inside the request (R197, R198), the
run of counters that a request names, and the replies to TEST_MONITOR and GET_COUNTERS (R202).
-/

namespace Sys2Proof.Machine

/-! ### TEST_MONITOR (R197, R198) -/

theorem BesideStatus.forceFault {g : State → State} (beside : BesideStatus g) (f : FlagId) (s : State) :
    g (forceFault f s) = Machine.forceFault f (g s) := by
  rw [Machine.forceFault, Machine.forceFault, apply_ite g, beside.offerNotice, beside.updateAlert, beside.putFlag,
    beside.stu]

/-- A test vector's check has its lowest bit inverted (log 19), so that the check unit finds a mismatch. -/
theorem ne_xor_one {w : Nat} (x : BitVec (w + 1)) : x ≠ x ^^^ 1#(w + 1) := by
  intro same
  have lowest := congrArg (BitVec.getLsbD · 0) same
  simp at lowest

theorem unitTest_mismatch (f : FlagId) {mismatch : Bool} (found : mismatch = true) (s : State) :
    unitTest f mismatch s = placeReply .ok [2] (forceFault f s) := if_pos found

theorem testMonitorRequest_five (s : State) :
    testMonitorRequest 5 s = placeReply .ok [2] (forceFault fRecallCrc s) :=
  unitTest_mismatch fRecallCrc (decide_eq_true (ne_xor_one (crc16 selfTestVector16))) s

theorem testMonitorRequest_eight (s : State) :
    testMonitorRequest 8 s = placeReply .ok [2] (forceFault fFrameCheck s) :=
  unitTest_mismatch fFrameCheck (decide_eq_true (ne_xor_one (crc8 selfTestVector8))) s

theorem testMonitorRequest_byte (k : Fin 3) (s : State) : testMonitorRequest (byte k) s = armTest k s := by
  match k with
  | 0 | 1 | 2 => rfl

theorem testMonitorRequest_other {monitor : Byte} (high : 2 < monitor.toNat) (five : monitor ≠ 5) (eight : monitor ≠ 8)
    (s : State) : testMonitorRequest monitor s = refuse .badValue s := by
  unfold testMonitorRequest
  split
  iterate 5 · bv_omega
  · rfl

/-- The pending mark of a test put up. -/
def testPending (k : Fin 3) (s : State) : State := s.modStu fun u => { u with tests := upd u.tests k fun _ => true }

theorem armTest_pending {k : Fin 3} {s : State} (pending : s.stu.tests[k] = true) :
    armTest k s = placeReply .ok [1] s := if_pos pending

theorem armTest_idle {k : Fin 3} {s : State} (idle : s.stu.tests[k] = false) :
    armTest k s = placeReply .ok [0] (testPending k s) := if_neg (Bool.eq_false_iff.mp idle)

theorem testPending_asked (k : Fin 3) (kind tag : Byte) (s : State) :
    testPending k (asked kind tag s) = asked kind tag (testPending k s) := rfl

theorem exec_testMonitor {s : State} (h : Ready s) (tag monitor : Byte) :
    exec (.testMonitor tag monitor) s = .next (arbitrate (testMonitorRequest monitor (asked 0x3A tag s))) :=
  arrive_request (i := .testMonitor tag monitor) (f := ⟨0x3A, tag, [monitor]⟩) h rfl (by simp [maxPayload]) rfl rfl

section
variable {s : State} (h : Ready s) (tag : Byte)
include h

theorem exec_testMonitor_pending {k : Fin 3} (pending : s.stu.tests[k] = true) :
    exec (.testMonitor tag (byte k)) s = .next (answered 0x3A tag .ok [1] s) := by
  have stillPending : (asked 0x3A tag s).stu.tests[k] = true := pending
  rw [exec_testMonitor h, testMonitorRequest_byte, armTest_pending stillPending, arbitrate_placeReply_asked (by decide)]

theorem exec_testMonitor_idle {k : Fin 3} (idle : s.stu.tests[k] = false) :
    exec (.testMonitor tag (byte k)) s = .next (answered 0x3A tag .ok [0] (testPending k s)) := by
  have stillIdle : (asked 0x3A tag s).stu.tests[k] = false := idle
  rw [exec_testMonitor h, testMonitorRequest_byte, armTest_idle stillIdle, testPending_asked,
    arbitrate_placeReply_asked (by decide)]

/-- A test made inside its request: the forced failure and the placing of the reply touch different parts of the state. -/
theorem exec_testMonitor_detected {monitor : Byte} {f : FlagId}
    (made : ∀ t, testMonitorRequest monitor t = placeReply .ok [2] (forceFault f t)) :
    exec (.testMonitor tag monitor) s = .next (answered 0x3A tag .ok [2] (forceFault f s)) := by
  rw [exec_testMonitor h, made, ← (asked_besideStatus 0x3A tag).forceFault, arbitrate_placeReply_asked (by decide)]

theorem exec_testMonitor_other {monitor : Byte} (high : 2 < monitor.toNat) (five : monitor ≠ 5) (eight : monitor ≠ 8) :
    exec (.testMonitor tag monitor) s = .next (answered 0x3A tag .badValue [] s) := by
  rw [exec_testMonitor h, testMonitorRequest_other high five eight, arbitrate_refuse_asked (by decide)]

end

/-! ### A run of counters (R202) -/

theorem inRun_iff {a n : Nat} {c : CounterId} : inRun a n c = true ↔ a ≤ c.val ∧ c.val < a + n := by simp [inRun]

/-- Two ascending lists with the same members are one list. -/
theorem ascending_ext {n : Nat} {l m : List (Fin n)} (hl : l.Pairwise (· < ·)) (hm : m.Pairwise (· < ·))
    (same : ∀ c, c ∈ l ↔ c ∈ m) : l = m := by
  have perm : l.Perm m := (List.perm_ext_iff_of_nodup (hl.imp Fin.ne_of_lt) (hm.imp Fin.ne_of_lt)).mpr same
  exact perm.eq_of_pairwise (fun _ _ _ _ before after => absurd after (Fin.lt_asymm before)) hl hm

/-- The counters of a run are its first one and those that follow: both lists ascend and have the same members. -/
theorem runOf_eq {a n : Nat} (inside : a + n ≤ 20) :
    runOf a n = (List.finRange n).map fun k => (⟨a + k.val, by omega⟩ : CounterId) := by
  refine ascending_ext ((List.pairwise_lt_finRange 20).filter _)
    ((List.pairwise_lt_finRange n).map _ fun j k before => Nat.add_lt_add_left before a) fun c => ?_
  simp only [runOf, List.mem_filter, List.mem_finRange, true_and, inRun_iff, List.mem_map]
  constructor
  · exact fun ⟨low, high⟩ => ⟨⟨c.val - a, by omega⟩, Fin.ext (Nat.add_sub_cancel' low)⟩
  · rintro ⟨k, rfl⟩
    exact ⟨Nat.le_add_right .., Nat.add_lt_add_left k.isLt a⟩

theorem clearRun_eq (a n : Nat) (s : State) :
    clearRun a n s = s.modStu fun u =>
      { u with counters := Vector.ofFn fun c => if a ≤ c.val ∧ c.val < a + n then 0 else u.counters[c] } := by
  simp only [clearRun, inRun_iff]

theorem clearRun_asked (a n : Nat) (kind tag : Byte) (s : State) :
    clearRun a n (asked kind tag s) = asked kind tag (clearRun a n s) := rfl

/-! ### GET_COUNTERS (R202) -/

/-- A run that R202 refuses: it starts beyond the last counter, is empty, is too long for a reply, or ends beyond the
last counter. -/
abbrev RunRefused (a n : Nat) : Prop := 19 < a ∨ n = 0 ∨ 12 < n ∨ 20 < a + n

theorem getCountersRequest_refused {first count clear : Byte}
    (refused : RunRefused first.toNat count.toNat ∨ 1 < clear.toNat) (s : State) :
    getCountersRequest first count clear s = refuse .badValue s := by
  unfold getCountersRequest
  rcases Nat.lt_or_ge 1 clear.toNat with high | low
  · simp only [bit?_high high]
  · have run : RunRefused first.toNat count.toNat := refused.resolve_right (Nat.not_lt.mpr low)
    simp only [bit?_low low]
    exact if_pos (by simpa [or_assoc] using run)

/-- The reply fields of a run. -/
def runFields (first count : Byte) (u : Stu) : List Byte :=
  first :: count :: (runOf first.toNat count.toNat).flatMap fun k => bytes16 u.counters[k]

/-- The state that an accepted GET_COUNTERS leaves but for its reply. -/
def countersTaken (first count clear : Byte) (s : State) : State :=
  if clear = 1 then clearRun first.toNat count.toNat s else s

theorem countersTaken_asked (first count clear kind tag : Byte) (s : State) :
    countersTaken first count clear (asked kind tag s) = asked kind tag (countersTaken first count clear s) := by
  rw [countersTaken, clearRun_asked, ← apply_ite (asked kind tag), countersTaken]

theorem getCountersRequest_accepted {first count clear : Byte} (accepted : ¬ RunRefused first.toNat count.toNat)
    (low : clear.toNat ≤ 1) (s : State) :
    getCountersRequest first count clear s =
      placeReply .ok (runFields first count s.stu) (countersTaken first count clear s) := by
  simp only [getCountersRequest, bit?_low low, decide_eq_true_eq]
  exact if_neg (by simpa [or_assoc] using accepted)

theorem exec_getCounters {s : State} (h : Ready s) (tag first count clear : Byte) :
    exec (.getCounters tag first count clear) s =
      .next (arbitrate (getCountersRequest first count clear (asked 0x3B tag s))) :=
  arrive_request (i := .getCounters tag first count clear) (f := ⟨0x3B, tag, [first, count, clear]⟩) h rfl
    (by simp [maxPayload]) rfl rfl

theorem exec_getCounters_refused {s : State} (h : Ready s) (tag : Byte) {first count clear : Byte}
    (refused : RunRefused first.toNat count.toNat ∨ 1 < clear.toNat) :
    exec (.getCounters tag first count clear) s = .next (answered 0x3B tag .badValue [] s) := by
  rw [exec_getCounters h, getCountersRequest_refused refused, arbitrate_refuse_asked (by decide)]

theorem exec_getCounters_accepted {s : State} (h : Ready s) (tag : Byte) {first count clear : Byte}
    (accepted : ¬ RunRefused first.toNat count.toNat) (low : clear.toNat ≤ 1) :
    exec (.getCounters tag first count clear) s =
      .next (answered 0x3B tag .ok (runFields first count s.stu) (countersTaken first count clear s)) := by
  rw [exec_getCounters h, getCountersRequest_accepted accepted low, countersTaken_asked,
    arbitrate_placeReply_asked (by decide)]
  rfl

/-- Settles O52: TEST_MONITOR by its monitor, the vectors' wrong checks making the failure certain; GET_COUNTERS by
whether its run is in range, the counters reported being the run in ascending order. -/
theorem testsAndCountersAreRequested : Obligations.TestsAndCountersAreRequested := by
  intro tag s h
  refine ⟨?armed, exec_testMonitor_detected h tag testMonitorRequest_five,
    exec_testMonitor_detected h tag testMonitorRequest_eight, fun _ => exec_testMonitor_other h tag,
    fun first count clear => ⟨?refused, ?accepted⟩⟩
  case armed =>
    rintro k _ rfl
    exact ⟨exec_testMonitor_pending h tag, exec_testMonitor_idle h tag⟩
  case refused =>
    intro refused
    exact exec_getCounters_refused h tag (by simpa only [or_assoc] using refused)
  case accepted =>
    intro inside nonempty short low
    have accepted : ¬ RunRefused first.toNat count.toNat := by omega
    rw [exec_getCounters_accepted h tag accepted low, countersTaken, clearRun_eq, runFields, runOf_eq inside]
    simp only [List.flatMap_map]
    rfl

end Sys2Proof.Machine
end
